-- ==== Sys2Proof/Word.lean ====
section
/-! DEFINITION. The word types of the CEC link controller (spec/00_scope.md R10, R11; spec/10_state.md R21).
Every value of the spec is unsigned, bit 0 is its least significant bit. -/

namespace Sys2Proof

/-- One byte of a frame (00_scope.md R11). -/
abbrev Byte := BitVec 8

/-- A command, response or STATUS word of the host interface (30_encoding.md R96, R103). -/
abbrev Word := BitVec 32

/-- A time or a duration in microseconds, `u64`, all arithmetic modulo 2^64 (00_scope.md R13). -/
abbrev Micros := BitVec 64

/-- A logical address (00_scope.md R10). -/
abbrev Addr := BitVec 4

/-- A device type code (30_encoding.md R104). -/
abbrev DevType := BitVec 3

/-- A value of the 5-bit `state` field, legal or reserved (10_state.md R30, R31). -/
abbrev StateCode := BitVec 5

end Sys2Proof
end

