-- ==== Sys2Proof/Config.lean ====
section
/-! DEFINITION. The implementation parameters of 00_scope.md R9, with the defaults it names, and the two free values
of the model. The parameters are plain data and stand in State (notes/assumptions/7.md): a statement over every
state is a statement over every value of them. -/

namespace Sys2Proof

/-- The parameters the source leaves open (00_scope.md R9). No rule writes one. -/
structure Config where
  /-- `LINE_ERROR_HOLD_US` -/
  lineErrorHold : Micros
  /-- `RX_CAP` -/
  rxCap : Nat
  /-- `TX_CAP` -/
  txCap : Nat
  /-- `MAX_ATTEMPTS` -/
  maxAttempts : Nat
  /-- `RX_STALL_TIMEOUT_US` -/
  rxStallTimeout : Micros
  /-- `LINE_SETTLE_US` -/
  lineSettle : Micros
  /-- `MAX_DEVICE_TYPES` -/
  maxDeviceTypes : Nat
  /-- `BROADCAST_ADDR` -/
  broadcastAddr : Addr
  /-- `UNREGISTERED_ADDR` -/
  unregisteredAddr : Addr
  /-- `NO_PHYS_ADDR` -/
  noPhysAddr : BitVec 16
  /-- `CANDIDATES`: the list of type code `t` is entry `t`; a type with no entry has no candidates (45_allocator.md R260). -/
  candidates : List (List Addr)
deriving DecidableEq, Repr

/-- The defaults of 00_scope.md R9 and 45_allocator.md R260.
PRESUMED (notes/assumptions/8.md): the attempts, the two sentinels and the candidate table come from general knowledge of
HDMI-CEC, as the spec itself marks them. -/
def Config.default : Config where
  lineErrorHold := 3600
  rxCap := 16
  txCap := 16
  maxAttempts := 5
  rxStallTimeout := 4800
  lineSettle := 100
  maxDeviceTypes := 4
  broadcastAddr := 0xF
  unregisteredAddr := 0xF
  noPhysAddr := 0xFFFF
  candidates := [[0, 14], [1, 2, 9], [], [3, 6, 7, 10], [4, 8, 11], [5], [], []]

/-- The ranges in which every field of 10_state.md R21 can hold what the rules count in it (DEDUCED, notes/assumptions/10.md)
and the well-formedness of `CANDIDATES` (45_allocator.md R260). -/
abbrev Config.WellFormed (c : Config) : Prop :=
  (1 ≤ c.rxCap ∧ c.rxCap ≤ 31) ∧ (1 ≤ c.txCap ∧ c.txCap ≤ 31) ∧ (1 ≤ c.maxAttempts ∧ c.maxAttempts ≤ 16) ∧
    c.maxDeviceTypes ≤ 4 ∧ ∀ l ∈ c.candidates, l.length ≤ 15 ∧ ∀ a ∈ l, a ≠ 0xF

/-- Free value: what a read of a byte position outside a buffer gives (notes/assumptions/11.md). -/
opaque Config.outsideByte : Nat → Byte

/-- Free value: what a read past the end of a candidate list gives (notes/assumptions/11.md). -/
opaque Config.outsideCandidate : Nat → Addr

end Sys2Proof
end

