-- ==== Sys2Proof/Syntax.lean ====
section
/-! DEFINITION. The instructions: one constructor per row of spec/opcode_table.json.
The first six are the host commands and the rejected command words (30_encoding.md R96 to R102); the rest are
the state handlers a DISPATCH selects (30_encoding.md R95; codes in 10_state.md R31) and the reserved state codes (R54).
Beside them stand the names of the 22 legal states. -/

namespace Sys2Proof

/-- The states of the flattened Link State Machine, in the order of 10_state.md R31. -/
inductive LinkState where
  | idle
  | rcvStartBit1 | rcvStartBit2 | rcvData1 | rcvData2 | rcvEom1 | rcvEom2
  | rcvAck1 | rcvAck2 | rcvAckSent | rcvLineError
  | xmitWait | xmitStartBit1 | xmitStartBit2 | xmitData1 | xmitData2 | xmitEom1 | xmitEom2
  | xmitAck1 | xmitAckTest | xmitAckWait | xmitAck2
deriving DecidableEq, Repr

inductive Instr where
  /-- CONFIGURE (30_encoding.md R97): LADDR, PROM, MON, NTYPES, T0, T1, T2, T3. -/
  | configure (laddr : Addr) (prom mon : Bool) (ntypes : BitVec 3) (t0 t1 t2 t3 : DevType)
  /-- SET_PHYS (R98): PHYS. -/
  | setPhys (phys : BitVec 16)
  /-- TX_ENQUEUE (R99): SRC_SELF, SRC, DST and the payload bytes, whose number is LEN. -/
  | txEnqueue (srcSelf : Bool) (src dst : Addr) (payload : List Byte)
  /-- DISPATCH (R100): CHANGED_HINT. -/
  | dispatch (hint : Bool)
  /-- READ_STATUS (R101): SEL. -/
  | readStatus (sel : Bool)
  /-- A command word that R102 rejects, with the payload bytes that came with it (log entry 3). -/
  | reservedOpcode (word : Word) (payload : List Byte)
  | stIdle
  | stRcvStartBit1
  | stRcvStartBit2
  | stRcvData1
  | stRcvData2
  | stRcvEom1
  | stRcvEom2
  | stRcvAck1
  | stRcvAck2
  | stRcvAckSent
  | stRcvLineError
  | stXmitWait
  | stXmitStartBit1
  | stXmitStartBit2
  | stXmitData1
  | stXmitData2
  | stXmitEom1
  | stXmitEom2
  | stXmitAck1
  | stXmitAckTest
  | stXmitAckWait
  | stXmitAck2
  /-- A reserved state code: 11 to 15 or 27 to 31 (10_state.md R54). -/
  | stReserved (code : StateCode)
deriving DecidableEq, Repr

end Sys2Proof
end

