-- ==== Sys2Proof/Decode.lean ====
section
/-! DEFINITION. The two decoders and the encoder.
A command word with its payload bytes decodes to a command or, by name, to the rejection of 30_encoding.md R102; a state
code decodes to its handler (R95; 10_state.md R31) or to the reserved row (R54). Both are total. The encoder is written from the
same tables. Last stands the byte stream of the command port (notes/assumptions/1.md). -/

namespace Sys2Proof

/-- `w[lo+len-1:lo]` (00_scope.md R11). -/
def bits (w : Word) (lo len : Nat) : BitVec len := w.extractLsb' lo len

/-- `w[i]` as a truth value. -/
def bit (w : Word) (i : Nat) : Bool := w.getLsbD i

/-- Bits [31:28] (30_encoding.md R96). -/
def opcode (w : Word) : BitVec 4 := bits w 28 4

/-- The number of payload bytes that follow a word: LEN for TX_ENQUEUE, read from the word alone (R99), none for the others (R107). -/
def payloadLength (w : Word) : Nat := if opcode w = 3 then (bits w 8 5).toNat else 0

/-- R102 on the operands of CONFIGURE: NTYPES at most MAX_DEVICE_TYPES, and the type fields it does not use are zero (R97). -/
def configureOk (maxTypes : Nat) (ntypes : BitVec 3) (t0 t1 t2 t3 : DevType) : Bool :=
  decide (ntypes.toNat ≤ maxTypes) && (decide (0 < ntypes.toNat) || t0 == 0) && (decide (1 < ntypes.toNat) || t1 == 0) &&
    (decide (2 < ntypes.toNat) || t2 == 0) && (decide (3 < ntypes.toNat) || t3 == 0)

/-- R102 on the operands of TX_ENQUEUE: SRC is zero when SRC_SELF is set (R99). -/
def txEnqueueOk (srcSelf : Bool) (src : Addr) : Bool := !srcSelf || src == 0

/-- Why R102 rejects a command word. -/
inductive EncodingError where
  /-- opcode 0x0 or 0x6 to 0xF -/
  | opcode
  /-- a reserved bit is set -/
  | reservedBits
  /-- CONFIGURE: NTYPES too large or an unused type field non-zero -/
  | deviceTypes
  /-- TX_ENQUEUE: SRC_SELF = 1 with SRC ≠ 0 -/
  | source
deriving DecidableEq, Repr

/-- The check of R102, by opcode. -/
def encodingError (maxTypes : Nat) (w : Word) : Option EncodingError :=
  match (opcode w).toNat with
  | 1 =>
    if bits w 23 5 ≠ 0 ∨ bits w 6 2 ≠ 0 then some .reservedBits
    else if configureOk maxTypes (bits w 8 3) (bits w 11 3) (bits w 14 3) (bits w 17 3) (bits w 20 3) then none
    else some .deviceTypes
  | 2 => if bits w 16 12 ≠ 0 then some .reservedBits else none
  | 3 => if bits w 14 14 ≠ 0 then some .reservedBits
    else if txEnqueueOk (bit w 13) (bits w 4 4) then none else some .source
  | 4 => if bits w 1 27 ≠ 0 then some .reservedBits else none
  | 5 => if bits w 1 27 ≠ 0 then some .reservedBits else none
  | _ => some .opcode

/-- The fields of a word that R102 accepts (R97 to R101). -/
def commandOf (w : Word) (payload : List Byte) : Instr :=
  match (opcode w).toNat with
  | 1 => .configure (bits w 0 4) (bit w 4) (bit w 5) (bits w 8 3) (bits w 11 3) (bits w 14 3) (bits w 17 3) (bits w 20 3)
  | 2 => .setPhys (bits w 0 16)
  | 3 => .txEnqueue (bit w 13) (bits w 4 4) (bits w 0 4) payload
  | 4 => .dispatch (bit w 0)
  | 5 => .readStatus (bit w 0)
  | _ => .reservedOpcode w payload

/-- A command word and the payload bytes after it. -/
def decodeCommand (maxTypes : Nat) (w : Word) (payload : List Byte) : Instr :=
  match encodingError maxTypes w with
  | some _ => .reservedOpcode w payload
  | none => commandOf w payload

/-- The state codes of 10_state.md R31. -/
def LinkState.code : LinkState → StateCode
  | .idle => 0
  | .rcvStartBit1 => 1
  | .rcvStartBit2 => 2
  | .rcvData1 => 3
  | .rcvData2 => 4
  | .rcvEom1 => 5
  | .rcvEom2 => 6
  | .rcvAck1 => 7
  | .rcvAck2 => 8
  | .rcvAckSent => 9
  | .rcvLineError => 10
  | .xmitWait => 16
  | .xmitStartBit1 => 17
  | .xmitStartBit2 => 18
  | .xmitData1 => 19
  | .xmitData2 => 20
  | .xmitEom1 => 21
  | .xmitEom2 => 22
  | .xmitAck1 => 23
  | .xmitAckTest => 24
  | .xmitAckWait => 25
  | .xmitAck2 => 26

/-- The state a code names, none for the reserved codes 11 to 15 and 27 to 31 (R31, R54). -/
def linkStateOf (code : StateCode) : Option LinkState :=
  match code.toNat with
  | 0 => some .idle
  | 1 => some .rcvStartBit1
  | 2 => some .rcvStartBit2
  | 3 => some .rcvData1
  | 4 => some .rcvData2
  | 5 => some .rcvEom1
  | 6 => some .rcvEom2
  | 7 => some .rcvAck1
  | 8 => some .rcvAck2
  | 9 => some .rcvAckSent
  | 10 => some .rcvLineError
  | 16 => some .xmitWait
  | 17 => some .xmitStartBit1
  | 18 => some .xmitStartBit2
  | 19 => some .xmitData1
  | 20 => some .xmitData2
  | 21 => some .xmitEom1
  | 22 => some .xmitEom2
  | 23 => some .xmitAck1
  | 24 => some .xmitAckTest
  | 25 => some .xmitAckWait
  | 26 => some .xmitAck2
  | _ => none

/-- The handler row of a legal state (30_encoding.md R95). -/
def handlerInstr : LinkState → Instr
  | .idle => .stIdle
  | .rcvStartBit1 => .stRcvStartBit1
  | .rcvStartBit2 => .stRcvStartBit2
  | .rcvData1 => .stRcvData1
  | .rcvData2 => .stRcvData2
  | .rcvEom1 => .stRcvEom1
  | .rcvEom2 => .stRcvEom2
  | .rcvAck1 => .stRcvAck1
  | .rcvAck2 => .stRcvAck2
  | .rcvAckSent => .stRcvAckSent
  | .rcvLineError => .stRcvLineError
  | .xmitWait => .stXmitWait
  | .xmitStartBit1 => .stXmitStartBit1
  | .xmitStartBit2 => .stXmitStartBit2
  | .xmitData1 => .stXmitData1
  | .xmitData2 => .stXmitData2
  | .xmitEom1 => .stXmitEom1
  | .xmitEom2 => .stXmitEom2
  | .xmitAck1 => .stXmitAck1
  | .xmitAckTest => .stXmitAckTest
  | .xmitAckWait => .stXmitAckWait
  | .xmitAck2 => .stXmitAck2

/-- The handler a DISPATCH selects: the match `state = code` of R95. -/
def decodeState (code : StateCode) : Instr :=
  match linkStateOf code with
  | some S => handlerInstr S
  | none => .stReserved code

/-- Where an instruction comes from: a command word with its payload, or the state register. -/
inductive Encoding where
  | command (word : Word) (payload : List Byte)
  | state (code : StateCode)
deriving DecidableEq, Repr

def decode (maxTypes : Nat) : Encoding → Instr
  | .command w payload => decodeCommand maxTypes w payload
  | .state code => decodeState code

/-- The words and codes of an instruction, field by field from R97 to R101 and 10_state.md R31. -/
def encode : Instr → Encoding
  | .configure laddr prom mon ntypes t0 t1 t2 t3 =>
    .command (BitVec.ofNat 32 (0x1 * 2 ^ 28 + t3.toNat * 2 ^ 20 + t2.toNat * 2 ^ 17 + t1.toNat * 2 ^ 14 + t0.toNat * 2 ^ 11 +
      ntypes.toNat * 2 ^ 8 + mon.toNat * 2 ^ 5 + prom.toNat * 2 ^ 4 + laddr.toNat)) []
  | .setPhys phys => .command (BitVec.ofNat 32 (0x2 * 2 ^ 28 + phys.toNat)) []
  | .txEnqueue srcSelf src dst payload =>
    .command (BitVec.ofNat 32 (0x3 * 2 ^ 28 + srcSelf.toNat * 2 ^ 13 + payload.length * 2 ^ 8 + src.toNat * 2 ^ 4 + dst.toNat))
      payload
  | .dispatch hint => .command (BitVec.ofNat 32 (0x4 * 2 ^ 28 + hint.toNat)) []
  | .readStatus sel => .command (BitVec.ofNat 32 (0x5 * 2 ^ 28 + sel.toNat)) []
  | .reservedOpcode w payload => .command w payload
  | .stIdle => .state 0
  | .stRcvStartBit1 => .state 1
  | .stRcvStartBit2 => .state 2
  | .stRcvData1 => .state 3
  | .stRcvData2 => .state 4
  | .stRcvEom1 => .state 5
  | .stRcvEom2 => .state 6
  | .stRcvAck1 => .state 7
  | .stRcvAck2 => .state 8
  | .stRcvAckSent => .state 9
  | .stRcvLineError => .state 10
  | .stXmitWait => .state 16
  | .stXmitStartBit1 => .state 17
  | .stXmitStartBit2 => .state 18
  | .stXmitData1 => .state 19
  | .stXmitData2 => .state 20
  | .stXmitEom1 => .state 21
  | .stXmitEom2 => .state 22
  | .stXmitAck1 => .state 23
  | .stXmitAckTest => .state 24
  | .stXmitAckWait => .state 25
  | .stXmitAck2 => .state 26
  | .stReserved code => .state code

/-- The word of four bytes of the command port. DESIGN CHOICE (notes/assumptions/1.md): the first byte is the least significant. -/
def wordOfBytes (b0 b1 b2 b3 : Byte) : Word :=
  BitVec.ofNat 32 (b0.toNat + b1.toNat * 2 ^ 8 + b2.toNat * 2 ^ 16 + b3.toNat * 2 ^ 24)

/-- The four bytes of a word on the command port, in the order of `wordOfBytes`. -/
def bytesOfWord (w : Word) : List Byte := [bits w 0 8, bits w 8 8, bits w 16 8, bits w 24 8]

/-- Why no instruction can be read from the command port. -/
inductive DecodeError where
  /-- the host has not yet written a whole command -/
  | incomplete
deriving DecidableEq, Repr

/-- The first command of the bytes on the command port, and the bytes after it. A word of opcode 0x3 takes LEN bytes with it (R99). -/
def decodeBytes (maxTypes : Nat) : List Byte → Except DecodeError (Instr × List Byte)
  | b0 :: b1 :: b2 :: b3 :: rest =>
    let w := wordOfBytes b0 b1 b2 b3
    if rest.length < payloadLength w then .error .incomplete
    else .ok (decodeCommand maxTypes w (rest.take (payloadLength w)), rest.drop (payloadLength w))
  | _ => .error .incomplete

/-- The bytes the host writes for a command; a handler row has none, it is selected by the state register. -/
def encodeBytes (i : Instr) : List Byte :=
  match encode i with
  | .command w payload => bytesOfWord w ++ payload
  | .state _ => []

/-- The payload bytes of a table word: byte `k` stands in bits 32+8k+7 to 32+8k, zero where the word is shorter. -/
def tablePayload (w n : Nat) : List Byte := (List.range n).map fun k => BitVec.ofNat 8 (w / 2 ^ (32 + 8 * k))

/-- A word of the opcode table as an encoding: a row of at most 8 bits is a state code (format STATE, mask 0x1F), a longer one
is a command word. -/
def tableEncoding (nbits w : Nat) : Encoding :=
  if nbits ≤ 8 then .state (BitVec.ofNat 5 w)
  else .command (BitVec.ofNat 32 w) (tablePayload w (payloadLength (BitVec.ofNat 32 w)))

/-- The instruction the decoder reads from a word of the opcode table, under the default parameters. A command word goes through
the bytes of the command port. -/
def decodeTableWord (nbits w : Nat) : Option Instr :=
  match tableEncoding nbits w with
  | .state code => some (decodeState code)
  | .command word payload =>
    match decodeBytes Config.default.maxDeviceTypes (bytesOfWord word ++ payload) with
    | .ok (i, _) => some i
    | .error _ => none

end Sys2Proof
end

