-- ==== Sys2Proof/Machine/State.lean ====
section
/-! DEFINITION. The state of the machine: the engine record of 10_state.md R21, the ports at its boundary, the output of the
current command (R20, R47; 30_encoding.md R103) and the parameters. Plain data. INVENTORY.md lists every field with its rule. -/

namespace Sys2Proof.Machine

open Sys2Proof

/-- An allocation record (10_state.md R24). -/
structure AllocRecord where
  /-- the requested device type code -/
  devType : DevType
  /-- index into `CANDIDATES(type)` -/
  cursor : BitVec 4
  /-- a logical address 0 to 15, or UNASSIGNED = 16 -/
  assigned : BitVec 5
deriving DecidableEq, Repr

/-- The engine record (10_state.md R21), the whole architectural state (R43). -/
structure Engine where
  address : Addr
  logicalAddressMask : BitVec 16
  alloc : List AllocRecord
  allocCount : BitVec 3
  allocIndex : BitVec 3
  allocActive : Bool
  allocDone : Bool
  probeOwned : Bool
  physAddr : BitVec 16
  /-- the level at the last dispatch, true = high -/
  lastLineState : Bool
  /-- false pulls the line low, true releases it -/
  driveLevel : Bool
  lastStateChangeTime : Micros
  bitStartTime : Micros
  releaseTime : Micros
  /-- the code of the current state (R30, R31) -/
  state : StateCode
  rxbuf : List Byte
  receiveBitCount : BitVec 8
  rxBitPos : BitVec 3
  txbuf : List Byte
  transmitByteCount : BitVec 5
  transmitBitCursor : BitVec 8
  retryCount : BitVec 4
  eom : Bool
  ack : Bool
  follower : Bool
  broadcast : Bool
  wasLastTransmitter : Bool
  promiscuous : Bool
  monitorMode : Bool
deriving DecidableEq, Repr

/-- What the environment presents to one dispatch: the line level and the clock (00_scope.md R16, R12). -/
structure Reading where
  line : Bool
  now : Micros
deriving DecidableEq, Repr

/-- The ports at the boundary of the block (20_memory.md R69; 46_host_interface.md R280, R283). -/
structure Ports where
  /-- the level at the line input port -/
  line : Bool
  /-- the reading of the clock port -/
  clock : Micros
  /-- the level last given to `drive_line_level` -/
  drive : Bool
  /-- the readings the coming dispatches will find; with none listed the ports keep what they read (notes/assumptions/4.md) -/
  upcoming : List Reading
  /-- the bytes of commands issued and not yet run (notes/assumptions/1.md) -/
  command : List Byte
deriving DecidableEq, Repr

/-- The events of a command's output (10_state.md R47). -/
inductive Event where
  | ready (addr : Addr)
  | frameReceived (bytes : List Byte) (ackOk : Bool)
  | transmitComplete (bytes : List Byte) (ackOk : Bool)
deriving DecidableEq, Repr

/-- The output of one command (30_encoding.md R103): the response word, the wait of a DISPATCH, the events and the STATUS word of
a READ_STATUS. -/
structure Response where
  word : Word
  wait : Option Micros
  events : List Event
  status : Option Word
deriving DecidableEq, Repr

structure State where
  cfg : Config
  engine : Engine
  ports : Ports
  /-- the output of the last command run; none before the first (notes/assumptions/6.md) -/
  response : Option Response
deriving DecidableEq, Repr

/-- Why the machine stops. -/
inductive Fault where
  /-- Raised by a dispatch that finds a reserved code in `state` and by the row STATE_RESERVED (10_state.md R54, 60_exceptions.md
  R302). Safe: the spec names this fault, and no run from reset reaches it. -/
  | reservedState
deriving DecidableEq, Repr

/-- Why an instruction has no meaning. -/
inductive Refusal where
  /-- Raised by exec for an instruction that is not modelled, by its mnemonic. Safe: nothing is claimed of it. No arm uses it. -/
  | notModelled (mnemonic : String)
deriving DecidableEq, Repr

/-- The inputs a handler sees (00_scope.md R12; 46_host_interface.md R283): the sampled level, the sampled clock, and whether the
level differs from the one before. -/
structure Inputs where
  line : Bool
  now : Micros
  changed : Bool
deriving DecidableEq, Repr

/-- What a handler leaves: the engine, the wait it returns and the events it emits in order (00_scope.md R12). -/
structure Reply where
  engine : Engine
  wait : Micros
  events : List Event
deriving DecidableEq, Repr

/-- `UNASSIGNED` (10_state.md R24). -/
abbrev unassigned : BitVec 5 := 16

/-- What an unused allocation record reads as (10_state.md R24). -/
abbrev AllocRecord.unused : AllocRecord := ⟨0, 0, unassigned⟩

/-- The engine after reset (10_state.md R21; 70_reset_and_hazards.md R331). -/
def Engine.reset (c : Config) : Engine where
  address := 0
  logicalAddressMask := 0
  alloc := List.replicate c.maxDeviceTypes AllocRecord.unused
  allocCount := 0
  allocIndex := 0
  allocActive := false
  allocDone := false
  probeOwned := false
  physAddr := c.noPhysAddr
  lastLineState := true
  driveLevel := true
  lastStateChangeTime := 0
  bitStartTime := 0
  releaseTime := 0
  state := 0
  rxbuf := List.replicate c.rxCap 0
  receiveBitCount := 0
  rxBitPos := 0
  txbuf := List.replicate c.txCap 0
  transmitByteCount := 0
  transmitBitCursor := 0
  retryCount := 0
  eom := false
  ack := false
  follower := false
  broadcast := false
  wasLastTransmitter := false
  promiscuous := false
  monitorMode := false

/-- The machine right after reset, under given parameters. The ports' readings are a DESIGN CHOICE (notes/assumptions/5.md): line
high, clock 0, nothing upcoming, no command. -/
def State.resetWith (c : Config) : State where
  cfg := c
  engine := Engine.reset c
  ports := { line := true, clock := 0, drive := true, upcoming := [], command := [] }
  response := none

/-- The machine right after reset, under the default parameters (70_reset_and_hazards.md R330, R331). -/
def State.reset : State := State.resetWith Config.default

end Sys2Proof.Machine
end

