-- ==== Sys2Proof/Machine/Codec.lean ====
section
/-! DEFINITION. The bit-timing codec (spec/40_timing_codec.md): pure classification of durations, and the nominal times the transmit
chain drives. Constants: 00_scope.md R8. -/

namespace Sys2Proof.Machine

open Sys2Proof

def startLowNom : Micros := 3700
def startLowTol : Micros := 300
def startPeriodNom : Micros := 4500
def startPeriodTol : Micros := 300
def bit1LowNom : Micros := 600
def bit1LowTol : Micros := 300
def bit0LowNom : Micros := 1500
def bit0LowTol : Micros := 300
def bitPeriodNom : Micros := 2400
def bitPeriodTol : Micros := 450
def ackSample : Micros := 1050

/-- R121: both ends inclusive. -/
def inWindow (d nom tol : Micros) : Bool := decide (nom - tol ≤ d) && decide (d ≤ nom + tol)

/-- R122 -/
def isStartLow (d : Micros) : Bool := inWindow d startLowNom startLowTol

/-- R123: only a lower bound. -/
def isStartPeriod (d : Micros) : Bool := decide (startPeriodNom - startPeriodTol ≤ d)

/-- R126: only a lower bound. -/
def isBitPeriod (d : Micros) : Bool := decide (bitPeriodNom - bitPeriodTol ≤ d)

/-- The classes of a data, EOM or ack bit's low phase (R124). -/
inductive LowPhase where
  | bit0 | bit1 | outOfRange
deriving DecidableEq, Repr

/-- R124 -/
def dataLow (d : Micros) : LowPhase :=
  if inWindow d bit1LowNom bit1LowTol then .bit1
  else if inWindow d bit0LowNom bit0LowTol then .bit0
  else .outOfRange

/-- R129 -/
def lowTime (b : Bool) : Micros := if b then bit1LowNom else bit0LowNom

/-- The smaller of two unsigned durations. -/
def minMicros (a b : Micros) : Micros := if a ≤ b then a else b

end Sys2Proof.Machine
end

