-- ==== Sys2Proof/Machine/Operands.lean ====
section
/-! DEFINITION. The operand forms: bits of a byte, bytes of a buffer, the header byte, the frame buffers' cursors
(spec/41_frame_buffers.md), allocation records, candidates and device types. -/

namespace Sys2Proof.Machine

open Sys2Proof

/-- `v[j] <- b` on a byte. -/
def setBit (v : Byte) (j : Nat) (b : Bool) : Byte := if b then v ||| (1#8 <<< j) else v &&& ~~~(1#8 <<< j)

/-- `buf[i]`. A position outside the buffer, which no rule reads, gives a free value (notes/assumptions/11.md). -/
def byteAt (buf : List Byte) (i : Nat) : Byte := buf.getD i (Config.outsideByte i)

/-- `buf[i+k] <- bytes[k]` for every `k`. -/
def writeBytes (buf : List Byte) (i : Nat) : List Byte → List Byte
  | [] => buf
  | b :: bs => writeBytes (buf.set i b) (i + 1) bs

/-- The header byte: source in the high nibble, destination in the low (20_memory.md R65; 30_encoding.md R87). -/
def headerByte (src dst : Addr) : Byte := src ++ dst

/-- `header[3:0]` (30_encoding.md R87). -/
def headerDest (header : Byte) : Addr := header.extractLsb' 0 4

/-- `TxBit()` (41_frame_buffers.md R143). -/
def txBit (e : Engine) : Bool :=
  (byteAt e.txbuf (e.transmitBitCursor.toNat / 8)).getLsbD (7 - e.transmitBitCursor.toNat % 8)

/-- `TxIsLastByte()` (R144). -/
def txIsLastByte (e : Engine) : Bool := e.transmitBitCursor.toNat / 8 == e.transmitByteCount.toNat

/-- `TxFrame()` (R149). -/
def txFrame (e : Engine) : List Byte := e.txbuf.take e.transmitByteCount.toNat

/-- `RxFrame()` (R148). -/
def rxFrame (e : Engine) : List Byte := e.rxbuf.take (e.receiveBitCount.toNat / 8)

/-- `ByteComplete()` (R147). -/
def byteComplete (e : Engine) : Bool := e.rxBitPos == 0

/-- The bit `j` of `rxbuf[i]` written (R146). -/
def rxbufSet (buf : List Byte) (i j : Nat) (b : Bool) : List Byte := buf.set i (setBit (byteAt buf i) j b)

/-- `alloc[i]`; a record beyond those the list holds reads as unused (10_state.md R24). -/
def allocAt (e : Engine) (i : Nat) : AllocRecord := e.alloc.getD i AllocRecord.unused

/-- `CANDIDATES(t)` (45_allocator.md R260). -/
def candidatesOf (c : Config) (t : DevType) : List Addr := c.candidates.getD t.toNat []

/-- `CANDIDATES(t)[k]`. Past the end of the list, which no reachable state reads, a free value (notes/assumptions/11.md). -/
def candidateAt (c : Config) (t : DevType) (k : Nat) : Addr := (candidatesOf c t).getD k (Config.outsideCandidate k)

/-- The allocation records CONFIGURE creates (46_host_interface.md R281). -/
def newRecords (count : Nat) (ntypes : BitVec 3) (t0 t1 t2 t3 : DevType) : List AllocRecord :=
  (List.range count).map fun i =>
    if i < ntypes.toNat then ⟨[t0, t1, t2, t3].getD i 0, 0, unassigned⟩ else AllocRecord.unused

/-- STATUS word 0 (10_state.md R45). -/
def status0 (e : Engine) : Word :=
  BitVec.ofNat 32 (e.state.toNat + e.eom.toNat * 2 ^ 5 + e.ack.toNat * 2 ^ 6 + e.follower.toNat * 2 ^ 7 +
    e.broadcast.toNat * 2 ^ 8 + e.wasLastTransmitter.toNat * 2 ^ 9 + e.promiscuous.toNat * 2 ^ 10 + e.monitorMode.toNat * 2 ^ 11 +
    e.driveLevel.toNat * 2 ^ 12 + e.lastLineState.toNat * 2 ^ 13 + e.allocActive.toNat * 2 ^ 14 + e.allocDone.toNat * 2 ^ 15 +
    e.address.toNat * 2 ^ 16 + e.retryCount.toNat * 2 ^ 20 + e.transmitByteCount.toNat * 2 ^ 24 + e.allocIndex.toNat * 2 ^ 29)

/-- STATUS word 1 (10_state.md R46). -/
def status1 (e : Engine) : Word :=
  BitVec.ofNat 32 (e.logicalAddressMask.toNat + e.receiveBitCount.toNat * 2 ^ 16 + e.transmitBitCursor.toNat * 2 ^ 24)

end Sys2Proof.Machine
end

