-- ==== Sys2Proof/Machine/Flags.lean ====
section
/-! DEFINITION. The flag computations: the running `ack` (40_timing_codec.md R125; 42_receive.md R179), `follower` and `broadcast`
(R172), the decision to assert the acknowledgement (R174), and the acknowledgement verdict of the transmit side (43_transmit.md R211). -/

namespace Sys2Proof.Machine

open Sys2Proof

/-- The bit `DecodeDataBit(d)` returns (R125): an out-of-range low phase counts as 1. -/
def decodedBit (d : Micros) : Bool := dataLow d != .bit0

/-- The state `DecodeDataBit(d)` writes (R125): `ack` is cleared by an out-of-range low phase, and only then. -/
def clearAckIfOutOfRange (d : Micros) (e : Engine) : Engine :=
  { e with ack := e.ack && dataLow d != .outOfRange }

/-- `HeaderComplete()` (42_receive.md R172). -/
def headerComplete (c : Config) (e : Engine) : Engine :=
  let dest := headerDest (byteAt e.rxbuf 0)
  { e with
    broadcast := dest == c.broadcastAddr
    follower := dest != c.broadcastAddr && e.logicalAddressMask.getLsbD dest.toNat }

/-- `AssertAck()` (R174). -/
def assertAck (e : Engine) : Bool := !e.monitorMode && ((e.follower && e.ack) || (e.broadcast && !e.ack))

/-- `ObserveAck(d)` (R179). -/
def observeAck (d : Micros) (e : Engine) : Engine :=
  let e' := clearAckIfOutOfRange d e
  { e' with ack := e'.ack && !(e'.broadcast && !decodedBit d) && !(!e'.broadcast && decodedBit d) }

/-- `acked` (43_transmit.md R211): polarity inverted for a broadcast. -/
def ackedAt (line : Bool) (e : Engine) : Bool := if e.broadcast then line else !line

end Sys2Proof.Machine
end

