-- ==== Sys2Proof/Machine/Ops.lean ====
section
/-! DEFINITION. The operations the handlers and the commands share: sampling the ports and answering a command
(46_host_interface.md R283; 30_encoding.md R103), the pseudocode primitives of 00_scope.md R12, and the helpers of the receive and
transmit chains (spec/42_receive.md; spec/43_transmit.md). This hardware takes no exceptions (60_exceptions.md R306): the operation every
refused command shares is `rejectWith`. -/

namespace Sys2Proof.Machine

open Sys2Proof

/-! ### Commands: sampling and answering -/

/-- The ports after the environment has presented the next reading: `read_line_level()` and `now_micros()` find `line` and `clock`. -/
def samplePorts (p : Ports) : Ports :=
  match p.upcoming with
  | [] => p
  | r :: rest => { p with line := r.line, clock := r.now, upcoming := rest }

/-- The inputs of a dispatch, `changed` against the level of the dispatch before (46_host_interface.md R283). -/
def inputsOf (p : Ports) (e : Engine) : Inputs := ⟨p.line, p.clock, p.line != e.lastLineState⟩

/-- R283: an edge is dated, and the level is remembered. -/
def observe (x : Inputs) (e : Engine) : Engine :=
  { e with
    lastStateChangeTime := if x.changed then x.now else e.lastStateChangeTime
    lastLineState := x.line }

/-- `rise` (42_receive.md R162) -/
def Inputs.rise (x : Inputs) : Bool := x.changed && x.line

/-- `fall` (42_receive.md R162) -/
def Inputs.fall (x : Inputs) : Bool := x.changed && !x.line

/-- The response codes of a rejected command (30_encoding.md R103; 60_exceptions.md R301). -/
inductive RejectReason where
  | encoding | monitor | pending | tooLong | busy
deriving DecidableEq, Repr

/-- CODE (60_exceptions.md R301) -/
def RejectReason.code : RejectReason → BitVec 4
  | .encoding => 1
  | .monitor => 2
  | .pending => 3
  | .tooLong => 4
  | .busy => 5

/-- The response word of an accepted command: OK = 1, CODE = 0 (30_encoding.md R103). -/
def okWord : Word := 1

/-- The response word of a rejected command: OK = 0, CODE in bits [7:4] (30_encoding.md R103). -/
def rejectWord (r : RejectReason) : Word := BitVec.ofNat 32 (r.code.toNat * 2 ^ 4)

/-- `reject(reason)`: the response and no other change (00_scope.md R12; 60_exceptions.md R301). -/
def rejectWith (r : RejectReason) (s : State) : State := { s with response := some ⟨rejectWord r, none, [], none⟩ }

/-- `respond OK` of a command that is no DISPATCH, with the events it emitted (46_host_interface.md R285). -/
def acceptWith (e : Engine) (events : List Event) (s : State) : State :=
  { s with engine := e, response := some ⟨okWord, none, events, none⟩ }

/-- The state a DISPATCH leaves (46_host_interface.md R283): the sampled ports with the line driven as the engine says, the engine, and
`respond OK with (W, events)`. -/
def dispatched (s : State) (e : Engine) (wait : Micros) (events : List Event) : State :=
  { s with
    engine := e
    ports := { samplePorts s.ports with drive := e.driveLevel }
    response := some ⟨okWord, some wait, events, none⟩ }

/-- A whole DISPATCH with a given handler (46_host_interface.md R283). -/
def runHandler (h : Config → Inputs → Engine → Reply) (s : State) : State :=
  let x := inputsOf (samplePorts s.ports) s.engine
  let r := h s.cfg x (observe x s.engine)
  dispatched s r.engine r.wait r.events

/-! ### Pseudocode primitives -/

/-- `WAIT_EDGE` (10_state.md R47): 2^64 - 1. -/
def waitEdge : Micros := BitVec.allOnes 64

/-- `goto S` -/
def goto (S : LinkState) (e : Engine) : Engine := { e with state := S.code }

/-- `DriveLine(b)` -/
def driveLine (b : Bool) (e : Engine) : Engine := { e with driveLevel := b }

/-- `elapsed` (00_scope.md R12) -/
def elapsed (x : Inputs) (e : Engine) : Micros := x.now - e.bitStartTime

/-- `SinceRelease` (43_transmit.md R200) -/
def sinceRelease (x : Inputs) (e : Engine) : Micros := x.now - e.releaseTime

/-- `idleFor` (44_arbitration.md R240) -/
def idleFor (x : Inputs) (e : Engine) : Micros := x.now - e.lastStateChangeTime

/-- `Rem(T)` (43_transmit.md R200) -/
def remaining (t : Micros) (x : Inputs) (e : Engine) : Micros := if t ≤ elapsed x e then 0 else t - elapsed x e

/-- A frame is pending and may be sent. -/
def framePending (e : Engine) : Bool := e.transmitByteCount != 0 && !e.monitorMode

/-- `ReturnToIdle()` (42_receive.md R162), after the given events. -/
def returnToIdle (e : Engine) (events : List Event) : Reply :=
  ⟨goto .idle e, if framePending e then 0 else waitEdge, events⟩

/-! ### Receive helpers -/

/-- `StallWait()` (42_receive.md R162) -/
def stallWait (c : Config) (x : Inputs) (e : Engine) : Micros := remaining c.rxStallTimeout x e

/-- `ReceiveReset()` (41_frame_buffers.md R145) -/
def receiveReset (e : Engine) : Engine :=
  { e with receiveBitCount := 0, rxBitPos := 0, eom := false, ack := true, follower := false, broadcast := false }

/-- `StartReception()` (42_receive.md R161) -/
def startReception (x : Inputs) (e : Engine) : Engine := { receiveReset e with bitStartTime := x.now }

/-- `StoreRxBit(b)` (41_frame_buffers.md R146) -/
def storeRxBit (c : Config) (b : Bool) (e : Engine) : Engine :=
  let stored :=
    if e.receiveBitCount.toNat < c.rxCap * 8 then
      let n := e.receiveBitCount.toNat
      let e' := { e with rxbuf := rxbufSet e.rxbuf (n / 8) (7 - n % 8) b, receiveBitCount := e.receiveBitCount + 1 }
      if e'.receiveBitCount = 8 then headerComplete c e' else e'
    else e
  { stored with rxBitPos := e.rxBitPos + 1 }

/-- `EnterLineError()` (42_receive.md R185) -/
def enterLineError (c : Config) (x : Inputs) (e : Engine) : Reply :=
  if e.monitorMode then returnToIdle e []
  else ⟨goto .rcvLineError { driveLine false e with bitStartTime := x.now }, c.lineErrorHold, []⟩

/-- The events of `CompleteFrame()` (42_receive.md R186). -/
def completeFrame (e : Engine) : List Event :=
  if e.follower || e.broadcast || e.promiscuous then [.frameReceived (rxFrame e) e.ack] else []

/-- A receive state that waits for a falling edge and sees none: the stall timeout (42_receive.md R183) or more waiting. -/
def awaitFall (c : Config) (x : Inputs) (e : Engine) : Reply :=
  if c.rxStallTimeout ≤ elapsed x e then returnToIdle e [] else ⟨e, stallWait c x e, []⟩

/-! ### Transmit helpers -/

/-- `Release(T)` (43_transmit.md R200): the engine and the wait. -/
def releaseLine (x : Inputs) (e : Engine) : Engine := { driveLine true e with releaseTime := x.now }

/-- The wait of `Release(T)` (43_transmit.md R200). -/
def releaseWait (c : Config) (t : Micros) (x : Inputs) (e : Engine) : Micros := minMicros c.lineSettle (remaining t x e)

/-- `DriveBit(b, S)` (43_transmit.md R200) -/
def driveBit (b : Bool) (S : LinkState) (x : Inputs) (e : Engine) : Reply :=
  ⟨goto S { driveLine false e with bitStartTime := x.now }, lowTime b, []⟩

/-- `BeginTransmit()` (43_transmit.md R201) -/
def beginTransmit (c : Config) (x : Inputs) (e : Engine) : Reply :=
  ⟨goto .xmitStartBit1
      { driveLine false e with
        broadcast := headerDest (byteAt e.txbuf 0) == c.broadcastAddr
        eom := false
        transmitBitCursor := 0
        bitStartTime := x.now },
    startLowNom, []⟩

/-- `Collided()` (43_transmit.md R214), by state. -/
def collided (S : LinkState) (c : Config) (x : Inputs) (e : Engine) : Bool :=
  match S with
  | .xmitStartBit1 | .xmitData1 | .xmitEom1 | .xmitAck1 => x.line
  | .xmitStartBit2 | .xmitData2 | .xmitEom2 => !x.line && decide (c.lineSettle ≤ sinceRelease x e)
  | .xmitAck2 => !x.line
  | .idle | .rcvStartBit1 | .rcvStartBit2 | .rcvData1 | .rcvData2 | .rcvEom1 | .rcvEom2 | .rcvAck1 | .rcvAck2 | .rcvAckSent
  | .rcvLineError | .xmitWait | .xmitAckTest | .xmitAckWait => false

/-- A released transmit state that has not reached the end `t` of its period: the wait, shortened while the line is still low
(43_transmit.md R203, R206, R208). -/
def awaitPeriod (c : Config) (t : Micros) (x : Inputs) (e : Engine) : Micros :=
  if x.line then t - elapsed x e else minMicros (c.lineSettle - sinceRelease x e) (t - elapsed x e)

end Sys2Proof.Machine
end

