-- ==== Sys2Proof/Machine/Receive.lean ====
section
/-! DEFINITION. The Idle handler, the receive chain and the line error (spec/42_receive.md). A handler runs on the engine after the
sampling of 46_host_interface.md R283; its instruction is the whole DISPATCH with it (notes/assumptions/15.md). -/

namespace Sys2Proof.Machine

open Sys2Proof

/-- R160 -/
def handleIdle (_ : Config) (x : Inputs) (e : Engine) : Reply :=
  if x.fall then ⟨goto .rcvStartBit1 (startReception x e), waitEdge, []⟩
  else if x.line && framePending e then ⟨goto .xmitWait e, 0, []⟩
  else ⟨e, waitEdge, []⟩

/-- R163 -/
def handleRcvStartBit1 (c : Config) (x : Inputs) (e : Engine) : Reply :=
  if x.rise then
    if isStartLow (elapsed x e) then ⟨goto .rcvStartBit2 e, stallWait c x e, []⟩
    else returnToIdle e []
  else ⟨e, waitEdge, []⟩

/-- R164, R165 -/
def handleRcvStartBit2 (c : Config) (x : Inputs) (e : Engine) : Reply :=
  if x.fall then
    if isStartPeriod (elapsed x e) then
      ⟨goto .rcvData1 { e with bitStartTime := x.now, wasLastTransmitter := false }, waitEdge, []⟩
    else returnToIdle e []
  else awaitFall c x e

/-- R166 -/
def handleRcvData1 (c : Config) (x : Inputs) (e : Engine) : Reply :=
  if x.rise then
    let d := elapsed x e
    ⟨goto .rcvData2 (storeRxBit c (decodedBit d) (clearAckIfOutOfRange d e)), stallWait c x e, []⟩
  else ⟨e, waitEdge, []⟩

/-- R168 -/
def handleRcvData2 (c : Config) (x : Inputs) (e : Engine) : Reply :=
  if x.fall then
    if isBitPeriod (elapsed x e) then
      ⟨goto (if byteComplete e then .rcvEom1 else .rcvData1) { e with bitStartTime := x.now }, waitEdge, []⟩
    else enterLineError c x e
  else awaitFall c x e

/-- R173 -/
def handleRcvEom1 (c : Config) (x : Inputs) (e : Engine) : Reply :=
  if x.rise then
    let d := elapsed x e
    ⟨goto .rcvEom2 { clearAckIfOutOfRange d e with eom := decodedBit d }, stallWait c x e, []⟩
  else ⟨e, waitEdge, []⟩

/-- R175 -/
def handleRcvEom2 (c : Config) (x : Inputs) (e : Engine) : Reply :=
  if x.fall then
    if isBitPeriod (elapsed x e) then
      if assertAck e then ⟨goto .rcvAckSent { driveLine false e with bitStartTime := x.now }, lowTime false, []⟩
      else ⟨goto .rcvAck1 { e with bitStartTime := x.now }, waitEdge, []⟩
    else enterLineError c x e
  else awaitFall c x e

/-- R177 -/
def handleRcvAckSent (c : Config) (x : Inputs) (e : Engine) : Reply :=
  if lowTime false ≤ elapsed x e then
    let released := driveLine true e
    if e.eom || !e.ack then returnToIdle released (completeFrame released)
    else ⟨goto .rcvAck2 released, stallWait c x e, []⟩
  else ⟨e, lowTime false - elapsed x e, []⟩

/-- R178, R180 -/
def handleRcvAck1 (c : Config) (x : Inputs) (e : Engine) : Reply :=
  if x.rise then
    let seen := observeAck (elapsed x e) e
    if seen.eom || !seen.ack then returnToIdle seen (completeFrame seen)
    else if seen.follower || seen.broadcast || seen.promiscuous then ⟨goto .rcvAck2 seen, stallWait c x e, []⟩
    else returnToIdle seen []
  else ⟨e, waitEdge, []⟩

/-- R181 -/
def handleRcvAck2 (c : Config) (x : Inputs) (e : Engine) : Reply :=
  if x.fall then
    if isBitPeriod (elapsed x e) then ⟨goto .rcvData1 { e with bitStartTime := x.now }, waitEdge, []⟩
    else enterLineError c x e
  else awaitFall c x e

/-- R184 -/
def handleRcvLineError (c : Config) (x : Inputs) (e : Engine) : Reply :=
  if c.lineErrorHold ≤ elapsed x e then returnToIdle (driveLine true e) []
  else ⟨e, c.lineErrorHold - elapsed x e, []⟩

/-- STATE_Idle (R160) -/
def execStIdle (s : State) : Host.Outcome State Fault Refusal := .next (runHandler handleIdle s)

/-- STATE_RcvStartBit1 (R163) -/
def execStRcvStartBit1 (s : State) : Host.Outcome State Fault Refusal := .next (runHandler handleRcvStartBit1 s)

/-- STATE_RcvStartBit2 (R164) -/
def execStRcvStartBit2 (s : State) : Host.Outcome State Fault Refusal := .next (runHandler handleRcvStartBit2 s)

/-- STATE_RcvData1 (R166) -/
def execStRcvData1 (s : State) : Host.Outcome State Fault Refusal := .next (runHandler handleRcvData1 s)

/-- STATE_RcvData2 (R168) -/
def execStRcvData2 (s : State) : Host.Outcome State Fault Refusal := .next (runHandler handleRcvData2 s)

/-- STATE_RcvEom1 (R173) -/
def execStRcvEom1 (s : State) : Host.Outcome State Fault Refusal := .next (runHandler handleRcvEom1 s)

/-- STATE_RcvEom2 (R175) -/
def execStRcvEom2 (s : State) : Host.Outcome State Fault Refusal := .next (runHandler handleRcvEom2 s)

/-- STATE_RcvAck1 (R178) -/
def execStRcvAck1 (s : State) : Host.Outcome State Fault Refusal := .next (runHandler handleRcvAck1 s)

/-- STATE_RcvAck2 (R181) -/
def execStRcvAck2 (s : State) : Host.Outcome State Fault Refusal := .next (runHandler handleRcvAck2 s)

/-- STATE_RcvAckSent (R177) -/
def execStRcvAckSent (s : State) : Host.Outcome State Fault Refusal := .next (runHandler handleRcvAckSent s)

/-- STATE_RcvLineError (R184) -/
def execStRcvLineError (s : State) : Host.Outcome State Fault Refusal := .next (runHandler handleRcvLineError s)

/-- STATE_RESERVED (10_state.md R54): no handler is picked, the machine faults, whichever reserved code it is. -/
def execStReserved (_code : StateCode) (_s : State) : Host.Outcome State Fault Refusal := .fault .reservedState

end Sys2Proof.Machine
end

