-- ==== Sys2Proof/Machine/Allocator.lean ====
section
/-! DEFINITION. The logical address allocator (spec/45_allocator.md). It has no handler of its own: CONFIGURE starts it and
`FinishTransmit` resolves its probes. -/

namespace Sys2Proof.Machine

open Sys2Proof

/-- `AllocationEnabled()` (R261) -/
def allocationEnabled (c : Config) (e : Engine) : Bool :=
  e.physAddr != c.noPhysAddr && !e.monitorMode && decide (0 < e.allocCount.toNat)

/-- `logicalAddressMask[a] <- 1` -/
def claimInMask (mask : BitVec 16) (a : Addr) : BitVec 16 := mask ||| (1#16 <<< a.toNat)

/-- `Claim(a)` (R265) -/
def claim (c : Config) (a : Addr) (e : Engine) : Engine :=
  { e with
    alloc := e.alloc.set e.allocIndex.toNat { allocAt e e.allocIndex.toNat with assigned := a.setWidth 5 }
    logicalAddressMask := if a = c.unregisteredAddr then e.logicalAddressMask else claimInMask e.logicalAddressMask a
    allocIndex := e.allocIndex + 1 }

/-- The primary address: `alloc[0].assigned[3:0]` (R266) -/
def primaryAddress (e : Engine) : Addr := (allocAt e 0).assigned.setWidth 4

/-- `Finish()` (R266), without its event. -/
def finishAllocation (e : Engine) : Engine :=
  { e with allocActive := false, allocDone := true, address := primaryAddress e }

/-- The probe frame for a candidate goes into the transmit buffer (R263). -/
def loadProbe (a : Addr) (e : Engine) : Engine :=
  { e with
    txbuf := e.txbuf.set 0 (headerByte a a)
    transmitByteCount := 1
    transmitBitCursor := 0
    retryCount := 0
    probeOwned := true }

/-- The loop of `ProbeCurrent()` (R263) with `n = allocCount - allocIndex` records left: each pass loads a probe and returns, or claims
the fallback address for a record whose candidates are exhausted and goes on; with none left the run finishes. -/
def probeLoop (c : Config) : Nat → Engine → Engine × List Event
  | 0, e => (finishAllocation e, [.ready (primaryAddress e)])
  | n + 1, e =>
    let r := allocAt e e.allocIndex.toNat
    if (candidatesOf c r.devType).length ≤ r.cursor.toNat then probeLoop c n (claim c c.unregisteredAddr e)
    else (loadProbe (candidateAt c r.devType r.cursor.toNat) e, [])

/-- `ProbeCurrent()` (R263) -/
def probeCurrent (c : Config) (e : Engine) : Engine × List Event := probeLoop c (e.allocCount.toNat - e.allocIndex.toNat) e

/-- `StartAllocation()` (R262) -/
def startAllocation (c : Config) (e : Engine) : Engine × List Event :=
  probeCurrent c { e with allocIndex := 0, allocActive := true, allocDone := false }

/-- `AllocatorResolve(acked)` (R264) -/
def allocatorResolve (c : Config) (acked : Bool) (e : Engine) : Engine × List Event :=
  let r := allocAt e e.allocIndex.toNat
  if acked then probeCurrent c { e with alloc := e.alloc.set e.allocIndex.toNat { r with cursor := r.cursor + 1 } }
  else probeCurrent c (claim c (candidateAt c r.devType r.cursor.toNat) e)

end Sys2Proof.Machine
end

