-- ==== Sys2Proof/Machine/Arbitration.lean ====
section
/-! DEFINITION. Arbitration and retry policy (spec/44_arbitration.md): the idle tiers, the outcomes of an attempt, and the XmitWait
handler. -/

namespace Sys2Proof.Machine

open Sys2Proof

/-- `RequiredIdle()` (R241): 3, 7 or 5 bit periods of 2400 µs. -/
def requiredIdle (e : Engine) : Micros :=
  if 0 < e.retryCount.toNat then 3 * bitPeriodNom
  else if e.wasLastTransmitter then 7 * bitPeriodNom
  else 5 * bitPeriodNom

/-- `FinishTransmit(ok)` (R248) -/
def finishTransmit (c : Config) (ok : Bool) (e : Engine) : Reply :=
  let emptied := { e with transmitByteCount := 0, transmitBitCursor := 0, retryCount := 0, probeOwned := false }
  let resolved := if e.probeOwned then allocatorResolve c ok emptied else (emptied, [])
  returnToIdle resolved.1 (.transmitComplete (txFrame e) ok :: resolved.2)

/-- `TransmitFailed(reason)` (R243): the same for a NAK and a collision. -/
def transmitFailed (c : Config) (e : Engine) : Reply :=
  let released := driveLine true e
  if e.transmitByteCount = 1 then finishTransmit c false released
  else if c.maxAttempts ≤ e.retryCount.toNat + 1 then finishTransmit c false released
  else returnToIdle { released with retryCount := e.retryCount + 1, transmitBitCursor := 0 } []

/-- `TransmitSucceeded()` (R247) -/
def transmitSucceeded (c : Config) (e : Engine) : Reply := finishTransmit c true { e with wasLastTransmitter := true }

/-- `CollisionAbort()` (43_transmit.md R215) -/
def collisionAbort (c : Config) (e : Engine) : Reply := transmitFailed c (driveLine true e)

/-- R242 -/
def handleXmitWait (c : Config) (x : Inputs) (e : Engine) : Reply :=
  if x.fall then ⟨goto .rcvStartBit1 (startReception x e), waitEdge, []⟩
  else if !x.line then ⟨goto .idle e, waitEdge, []⟩
  else if requiredIdle e ≤ idleFor x e then beginTransmit c x e
  else ⟨e, requiredIdle e - idleFor x e, []⟩

/-- STATE_XmitWait (R242) -/
def execStXmitWait (s : State) : Host.Outcome State Fault Refusal := .next (runHandler handleXmitWait s)

end Sys2Proof.Machine
end

