-- ==== Sys2Proof/Machine/Transmit.lean ====
section
/-! DEFINITION. The transmit chain (spec/43_transmit.md): the bit encoder, the acknowledgement test and the collision detector. -/

namespace Sys2Proof.Machine

open Sys2Proof

/-- R202 -/
def handleXmitStartBit1 (c : Config) (x : Inputs) (e : Engine) : Reply :=
  if collided .xmitStartBit1 c x e then collisionAbort c e
  else if startLowNom ≤ elapsed x e then
    ⟨goto .xmitStartBit2 (releaseLine x e), releaseWait c startPeriodNom x e, []⟩
  else ⟨e, startLowNom - elapsed x e, []⟩

/-- R203 -/
def handleXmitStartBit2 (c : Config) (x : Inputs) (e : Engine) : Reply :=
  if collided .xmitStartBit2 c x e then collisionAbort c e
  else if startPeriodNom ≤ elapsed x e then driveBit (txBit e) .xmitData1 x e
  else ⟨e, awaitPeriod c startPeriodNom x e, []⟩

/-- R205 -/
def handleXmitData1 (c : Config) (x : Inputs) (e : Engine) : Reply :=
  if collided .xmitData1 c x e then collisionAbort c e
  else if lowTime (txBit e) ≤ elapsed x e then
    ⟨goto .xmitData2 (releaseLine x e), releaseWait c bitPeriodNom x e, []⟩
  else ⟨e, lowTime (txBit e) - elapsed x e, []⟩

/-- R206 -/
def handleXmitData2 (c : Config) (x : Inputs) (e : Engine) : Reply :=
  if collided .xmitData2 c x e then collisionAbort c e
  else if bitPeriodNom ≤ elapsed x e then
    let advanced := { e with transmitBitCursor := e.transmitBitCursor + 1 }
    if advanced.transmitBitCursor.toNat % 8 = 0 then
      driveBit (txIsLastByte advanced) .xmitEom1 x { advanced with eom := txIsLastByte advanced }
    else driveBit (txBit advanced) .xmitData1 x advanced
  else ⟨e, awaitPeriod c bitPeriodNom x e, []⟩

/-- R207 -/
def handleXmitEom1 (c : Config) (x : Inputs) (e : Engine) : Reply :=
  if collided .xmitEom1 c x e then collisionAbort c e
  else if lowTime e.eom ≤ elapsed x e then
    ⟨goto .xmitEom2 (releaseLine x e), releaseWait c bitPeriodNom x e, []⟩
  else ⟨e, lowTime e.eom - elapsed x e, []⟩

/-- R208 -/
def handleXmitEom2 (c : Config) (x : Inputs) (e : Engine) : Reply :=
  if collided .xmitEom2 c x e then collisionAbort c e
  else if bitPeriodNom ≤ elapsed x e then driveBit true .xmitAck1 x e
  else ⟨e, awaitPeriod c bitPeriodNom x e, []⟩

/-- R209 -/
def handleXmitAck1 (c : Config) (x : Inputs) (e : Engine) : Reply :=
  if collided .xmitAck1 c x e then collisionAbort c e
  else if lowTime true ≤ elapsed x e then ⟨goto .xmitAckTest (driveLine true e), remaining ackSample x e, []⟩
  else ⟨e, lowTime true - elapsed x e, []⟩

/-- R210, R211 -/
def handleXmitAckTest (c : Config) (x : Inputs) (e : Engine) : Reply :=
  if elapsed x e < ackSample then ⟨e, ackSample - elapsed x e, []⟩
  else if !ackedAt x.line e then transmitFailed c e
  else if e.eom then transmitSucceeded c e
  else if !x.line then ⟨goto .xmitAckWait e, remaining bitPeriodNom x e, []⟩
  else ⟨goto .xmitAck2 e, remaining bitPeriodNom x e, []⟩

/-- R212 -/
def handleXmitAckWait (c : Config) (x : Inputs) (e : Engine) : Reply :=
  if x.line then ⟨goto .xmitAck2 e, remaining bitPeriodNom x e, []⟩
  else if bitPeriodNom ≤ elapsed x e then collisionAbort c e
  else ⟨e, bitPeriodNom - elapsed x e, []⟩

/-- R213 -/
def handleXmitAck2 (c : Config) (x : Inputs) (e : Engine) : Reply :=
  if collided .xmitAck2 c x e then collisionAbort c e
  else if bitPeriodNom ≤ elapsed x e then driveBit (txBit e) .xmitData1 x e
  else ⟨e, bitPeriodNom - elapsed x e, []⟩

/-- STATE_XmitStartBit1 (R202) -/
def execStXmitStartBit1 (s : State) : Host.Outcome State Fault Refusal := .next (runHandler handleXmitStartBit1 s)

/-- STATE_XmitStartBit2 (R203) -/
def execStXmitStartBit2 (s : State) : Host.Outcome State Fault Refusal := .next (runHandler handleXmitStartBit2 s)

/-- STATE_XmitData1 (R205) -/
def execStXmitData1 (s : State) : Host.Outcome State Fault Refusal := .next (runHandler handleXmitData1 s)

/-- STATE_XmitData2 (R206) -/
def execStXmitData2 (s : State) : Host.Outcome State Fault Refusal := .next (runHandler handleXmitData2 s)

/-- STATE_XmitEom1 (R207) -/
def execStXmitEom1 (s : State) : Host.Outcome State Fault Refusal := .next (runHandler handleXmitEom1 s)

/-- STATE_XmitEom2 (R208) -/
def execStXmitEom2 (s : State) : Host.Outcome State Fault Refusal := .next (runHandler handleXmitEom2 s)

/-- STATE_XmitAck1 (R209) -/
def execStXmitAck1 (s : State) : Host.Outcome State Fault Refusal := .next (runHandler handleXmitAck1 s)

/-- STATE_XmitAckTest (R210) -/
def execStXmitAckTest (s : State) : Host.Outcome State Fault Refusal := .next (runHandler handleXmitAckTest s)

/-- STATE_XmitAckWait (R212) -/
def execStXmitAckWait (s : State) : Host.Outcome State Fault Refusal := .next (runHandler handleXmitAckWait s)

/-- STATE_XmitAck2 (R213) -/
def execStXmitAck2 (s : State) : Host.Outcome State Fault Refusal := .next (runHandler handleXmitAck2 s)

end Sys2Proof.Machine
end

