-- ==== Sys2Proof/Machine/HostCommands.lean ====
section
/-! DEFINITION. The host commands (spec/46_host_interface.md; TX_ENQUEUE in 41_frame_buffers.md R141) and the rejected command words
(30_encoding.md R102). -/

namespace Sys2Proof.Machine

open Sys2Proof

/-- The engine a CONFIGURE leaves before allocation starts (R281). -/
def configured (c : Config) (laddr : Addr) (prom mon : Bool) (ntypes : BitVec 3) (t0 t1 t2 t3 : DevType) (e : Engine) : Engine :=
  { e with
    address := laddr
    promiscuous := prom
    monitorMode := mon
    logicalAddressMask := 0
    allocCount := ntypes
    alloc := newRecords c.maxDeviceTypes ntypes t0 t1 t2 t3
    allocIndex := 0
    allocActive := false
    allocDone := false
    probeOwned := false }

/-- CONFIGURE (R281) -/
def execConfigure (laddr : Addr) (prom mon : Bool) (ntypes : BitVec 3) (t0 t1 t2 t3 : DevType) (s : State) :
    Host.Outcome State Fault Refusal :=
  if !configureOk s.cfg.maxDeviceTypes ntypes t0 t1 t2 t3 then .next (rejectWith .encoding s)
  else if s.engine.state ≠ LinkState.idle.code ∨ s.engine.transmitByteCount ≠ 0 then .next (rejectWith .busy s)
  else
    let e := configured s.cfg laddr prom mon ntypes t0 t1 t2 t3 s.engine
    let run := if allocationEnabled s.cfg e then startAllocation s.cfg e else (e, [])
    .next (acceptWith run.1 run.2 s)

/-- SET_PHYS (R282) -/
def execSetPhys (phys : BitVec 16) (s : State) : Host.Outcome State Fault Refusal :=
  .next (acceptWith { s.engine with physAddr := phys } [] s)

/-- The engine an accepted TX_ENQUEUE leaves (41_frame_buffers.md R141). -/
def enqueued (src dst : Addr) (payload : List Byte) (e : Engine) : Engine :=
  { e with
    txbuf := writeBytes e.txbuf 0 (headerByte src dst :: payload)
    transmitByteCount := BitVec.ofNat 5 (payload.length + 1)
    transmitBitCursor := 0
    retryCount := 0
    probeOwned := false }

/-- TX_ENQUEUE (41_frame_buffers.md R141): the checks in the order of the rule, the first that fails names the code. -/
def execTxEnqueue (srcSelf : Bool) (src dst : Addr) (payload : List Byte) (s : State) : Host.Outcome State Fault Refusal :=
  if !txEnqueueOk srcSelf src then .next (rejectWith .encoding s)
  else if s.engine.monitorMode then .next (rejectWith .monitor s)
  else if s.engine.transmitByteCount ≠ 0 then .next (rejectWith .pending s)
  else if s.cfg.txCap < payload.length + 1 then .next (rejectWith .tooLong s)
  else .next (acceptWith (enqueued (if srcSelf then s.engine.address else src) dst payload s.engine) [] s)

/-- READ_STATUS (R287): samples nothing, writes no engine state. -/
def execReadStatus (sel : Bool) (s : State) : Host.Outcome State Fault Refusal :=
  .next { s with
    response := some ⟨okWord, none, [], some (if sel then status1 s.engine else status0 s.engine)⟩ }

/-- RESERVED_OPCODE (30_encoding.md R102): `ERR_ENCODING`, no engine state changes, whatever the word. -/
def execReservedOpcode (_word : Word) (_payload : List Byte) (s : State) : Host.Outcome State Fault Refusal :=
  .next (rejectWith .encoding s)

/-- `Handler[state]` (30_encoding.md R95): exactly one handler, by the code. -/
def execHandlerOf (code : StateCode) (s : State) : Host.Outcome State Fault Refusal :=
  match linkStateOf code with
  | some .idle => execStIdle s
  | some .rcvStartBit1 => execStRcvStartBit1 s
  | some .rcvStartBit2 => execStRcvStartBit2 s
  | some .rcvData1 => execStRcvData1 s
  | some .rcvData2 => execStRcvData2 s
  | some .rcvEom1 => execStRcvEom1 s
  | some .rcvEom2 => execStRcvEom2 s
  | some .rcvAck1 => execStRcvAck1 s
  | some .rcvAck2 => execStRcvAck2 s
  | some .rcvAckSent => execStRcvAckSent s
  | some .rcvLineError => execStRcvLineError s
  | some .xmitWait => execStXmitWait s
  | some .xmitStartBit1 => execStXmitStartBit1 s
  | some .xmitStartBit2 => execStXmitStartBit2 s
  | some .xmitData1 => execStXmitData1 s
  | some .xmitData2 => execStXmitData2 s
  | some .xmitEom1 => execStXmitEom1 s
  | some .xmitEom2 => execStXmitEom2 s
  | some .xmitAck1 => execStXmitAck1 s
  | some .xmitAckTest => execStXmitAckTest s
  | some .xmitAckWait => execStXmitAckWait s
  | some .xmitAck2 => execStXmitAck2 s
  | none => execStReserved code s

/-- DISPATCH (R283): the hint is ignored (30_encoding.md R100). -/
def execDispatch (_hint : Bool) (s : State) : Host.Outcome State Fault Refusal := execHandlerOf s.engine.state s

end Sys2Proof.Machine
end

