-- ==== Sys2Proof/Machine/Dispatch.lean ====
section
/-! DEFINITION. Dispatch: one arm per constructor of Instr, each one call of its meaning. -/

namespace Sys2Proof.Machine

open Sys2Proof

def exec (i : Instr) (s : State) : Host.Outcome State Fault Refusal :=
  match i with
  | .configure laddr prom mon ntypes t0 t1 t2 t3 => Sys2Proof.Machine.execConfigure laddr prom mon ntypes t0 t1 t2 t3 s
  | .setPhys phys => Sys2Proof.Machine.execSetPhys phys s
  | .txEnqueue srcSelf src dst payload => Sys2Proof.Machine.execTxEnqueue srcSelf src dst payload s
  | .dispatch hint => Sys2Proof.Machine.execDispatch hint s
  | .readStatus sel => Sys2Proof.Machine.execReadStatus sel s
  | .reservedOpcode word payload => Sys2Proof.Machine.execReservedOpcode word payload s
  | .stIdle => Sys2Proof.Machine.execStIdle s
  | .stRcvStartBit1 => Sys2Proof.Machine.execStRcvStartBit1 s
  | .stRcvStartBit2 => Sys2Proof.Machine.execStRcvStartBit2 s
  | .stRcvData1 => Sys2Proof.Machine.execStRcvData1 s
  | .stRcvData2 => Sys2Proof.Machine.execStRcvData2 s
  | .stRcvEom1 => Sys2Proof.Machine.execStRcvEom1 s
  | .stRcvEom2 => Sys2Proof.Machine.execStRcvEom2 s
  | .stRcvAck1 => Sys2Proof.Machine.execStRcvAck1 s
  | .stRcvAck2 => Sys2Proof.Machine.execStRcvAck2 s
  | .stRcvAckSent => Sys2Proof.Machine.execStRcvAckSent s
  | .stRcvLineError => Sys2Proof.Machine.execStRcvLineError s
  | .stXmitWait => Sys2Proof.Machine.execStXmitWait s
  | .stXmitStartBit1 => Sys2Proof.Machine.execStXmitStartBit1 s
  | .stXmitStartBit2 => Sys2Proof.Machine.execStXmitStartBit2 s
  | .stXmitData1 => Sys2Proof.Machine.execStXmitData1 s
  | .stXmitData2 => Sys2Proof.Machine.execStXmitData2 s
  | .stXmitEom1 => Sys2Proof.Machine.execStXmitEom1 s
  | .stXmitEom2 => Sys2Proof.Machine.execStXmitEom2 s
  | .stXmitAck1 => Sys2Proof.Machine.execStXmitAck1 s
  | .stXmitAckTest => Sys2Proof.Machine.execStXmitAckTest s
  | .stXmitAckWait => Sys2Proof.Machine.execStXmitAckWait s
  | .stXmitAck2 => Sys2Proof.Machine.execStXmitAck2 s
  | .stReserved code => Sys2Proof.Machine.execStReserved code s

end Sys2Proof.Machine
end

