-- ==== Sys2Proof/Machine/Step.lean ====
section
/-! DEFINITION. One step: the first whole command on the command port is taken off it and run (46_host_interface.md R280;
20_memory.md R68). Without one the engine is not invoked and keeps all state (60_exceptions.md R311; notes/assumptions/2.md). -/

namespace Sys2Proof.Machine

open Sys2Proof

/-- The state with the command port left at the given bytes. -/
def State.withCommandBytes (s : State) (bytes : List Byte) : State := { s with ports := { s.ports with command := bytes } }

def step (s : State) : Host.Outcome State Fault Refusal :=
  match decodeBytes s.cfg.maxDeviceTypes s.ports.command with
  | .error _ => .next s
  | .ok (i, rest) => exec i (s.withCommandBytes rest)

/-- The bytes of a DISPATCH with hint 0 (30_encoding.md R100). -/
def dispatchBytes : List Byte := encodeBytes (.dispatch false)

/-- The word of a table row placed where the next step runs it: a command word with its payload at the front of the command port; a
state code in the state register, with the DISPATCH that selects its handler at the front of the command port (notes/assumptions/16.md). -/
def State.withFetchWord (s : State) (nbits w : Nat) : State :=
  match tableEncoding nbits w with
  | .command word payload => s.withCommandBytes (bytesOfWord word ++ payload ++ s.ports.command)
  | .state code =>
    { s.withCommandBytes (dispatchBytes ++ s.ports.command) with engine := { s.engine with state := code } }

end Sys2Proof.Machine
end

