-- ==== Sys2Proof/WellFormed.lean ====
section
/-! DEFINITION. Which terms of Instr are instructions: exactly those that some command word or state code stands for. -/

namespace Sys2Proof

/-- An instruction that has an encoding, for a machine with `maxTypes` allocation records. -/
def Instr.wf (maxTypes : Nat) : Instr → Bool
  | .configure _ _ _ ntypes t0 t1 t2 t3 => configureOk maxTypes ntypes t0 t1 t2 t3
  | .setPhys _ => true
  | .txEnqueue srcSelf src _ payload => txEnqueueOk srcSelf src && decide (payload.length ≤ 31)
  | .dispatch _ => true
  | .readStatus _ => true
  | .reservedOpcode w payload => (encodingError maxTypes w).isSome && payload.length == payloadLength w
  | .stIdle => true
  | .stRcvStartBit1 => true
  | .stRcvStartBit2 => true
  | .stRcvData1 => true
  | .stRcvData2 => true
  | .stRcvEom1 => true
  | .stRcvEom2 => true
  | .stRcvAck1 => true
  | .stRcvAck2 => true
  | .stRcvAckSent => true
  | .stRcvLineError => true
  | .stXmitWait => true
  | .stXmitStartBit1 => true
  | .stXmitStartBit2 => true
  | .stXmitData1 => true
  | .stXmitData2 => true
  | .stXmitEom1 => true
  | .stXmitEom2 => true
  | .stXmitAck1 => true
  | .stXmitAckTest => true
  | .stXmitAckWait => true
  | .stXmitAck2 => true
  | .stReserved code => (linkStateOf code).isNone

/-- The instruction is a host command or a rejected command word, read from the command port. -/
def Instr.isCommand : Instr → Bool
  | .configure .. => true
  | .setPhys _ => true
  | .txEnqueue .. => true
  | .dispatch _ => true
  | .readStatus _ => true
  | .reservedOpcode .. => true
  | .stIdle => false
  | .stRcvStartBit1 => false
  | .stRcvStartBit2 => false
  | .stRcvData1 => false
  | .stRcvData2 => false
  | .stRcvEom1 => false
  | .stRcvEom2 => false
  | .stRcvAck1 => false
  | .stRcvAck2 => false
  | .stRcvAckSent => false
  | .stRcvLineError => false
  | .stXmitWait => false
  | .stXmitStartBit1 => false
  | .stXmitStartBit2 => false
  | .stXmitData1 => false
  | .stXmitData2 => false
  | .stXmitEom1 => false
  | .stXmitEom2 => false
  | .stXmitAck1 => false
  | .stXmitAckTest => false
  | .stXmitAckWait => false
  | .stXmitAck2 => false
  | .stReserved _ => false

end Sys2Proof
end

