-- ==== Sys2Proof/Safety.lean ====
section
/-! DEFINITION. What claims about the machine are stated in: the phases (10_state.md R32), the invariants (R48), the premise of a
monotonic clock (20_memory.md R76), the wired-AND of two engines (R75), and a few spec-level readings of a state (durations as natural
numbers, the inputs of the next dispatch). -/

namespace Sys2Proof.Machine

open Sys2Proof

/-! ### Spec-level readings -/

/-- `(now - t) mod 2^64` as a natural number (00_scope.md R12). -/
def since (now t : Micros) : Nat := (now.toNat + 2 ^ 64 - t.toNat) % 2 ^ 64

/-- A duration in microseconds as a `u64`. -/
abbrev micros (n : Nat) : Micros := BitVec.ofNat 64 n

/-- The inputs a DISPATCH in this state samples (46_host_interface.md R283). -/
def State.inputs (s : State) : Inputs := inputsOf (samplePorts s.ports) s.engine

/-- The engine a DISPATCH in this state hands to its handler (46_host_interface.md R283). -/
def State.observed (s : State) : Engine := observe s.inputs s.engine

/-- `elapsed` at the next DISPATCH (00_scope.md R12). -/
def State.elapsed (s : State) : Nat := since s.inputs.now s.engine.bitStartTime

/-- `SinceRelease` at the next DISPATCH (43_transmit.md R200). -/
def State.sinceRelease (s : State) : Nat := since s.inputs.now s.engine.releaseTime

/-- The wait of `ReturnToIdle()` (42_receive.md R162). -/
def idleWait (e : Engine) : Micros := if e.transmitByteCount ≠ 0 ∧ e.monitorMode = false then 0 else micros (2 ^ 64 - 1)

/-- What a DISPATCH leaves when its handler leaves the given reply. -/
def dispatchedReply (s : State) (r : Reply) : State := dispatched s r.engine r.wait r.events

/-- The events of the last command's output. -/
def State.events (s : State) : List Event := (s.response.map (·.events)).getD []

/-- The response word of the last command's output. -/
def State.responseWord (s : State) : Option Word := s.response.map (·.word)

/-- The outcome of a DISPATCH that finds the falling edge of a data, EOM or ack bit too early (42_receive.md R185). -/
def lineErrorOutcome (s : State) : State :=
  if s.engine.monitorMode = true then dispatched s { s.observed with state := 0 } (idleWait s.engine) []
  else dispatched s { s.observed with driveLevel := false, bitStartTime := s.inputs.now, state := 10 } s.cfg.lineErrorHold []

/-- The outcome of a DISPATCH without a falling edge in a receive state that waits for one (42_receive.md R183). -/
def stallOutcome (s : State) : State :=
  if s.cfg.rxStallTimeout.toNat ≤ s.elapsed then dispatched s { s.observed with state := 0 } (idleWait s.engine) []
  else dispatched s s.observed (micros (s.cfg.rxStallTimeout.toNat - s.elapsed)) []

/-- The outcome of a DISPATCH that finds a collision (43_transmit.md R215): the line released, then the retry policy. -/
def collisionOutcome (s : State) : State := dispatchedReply s (transmitFailed s.cfg { s.observed with driveLevel := true })

/-- The outcome of a DISPATCH in a transmit state that drives a low phase of `low` µs in a symbol of `period` µs and then releases the
line into the state `next` (43_transmit.md R202, R205, R207; R200 for the wait after the release). -/
def lowPhaseOutcome (s : State) (low period : Nat) (next : StateCode) : State :=
  if s.inputs.line = true then collisionOutcome s
  else if low ≤ s.elapsed then
    dispatched s { s.observed with driveLevel := true, releaseTime := s.inputs.now, state := next }
      (micros (min s.cfg.lineSettle.toNat (period - s.elapsed))) []
  else dispatched s s.observed (micros (low - s.elapsed)) []

/-- The outcome of a DISPATCH in a transmit state that has released the line and waits out `period` µs, after which it does `atEnd`
(43_transmit.md R203, R206, R208). -/
def highPhaseOutcome (s : State) (period : Nat) (atEnd : State) : State :=
  if s.inputs.line = false ∧ s.cfg.lineSettle.toNat ≤ s.sinceRelease then collisionOutcome s
  else if period ≤ s.elapsed then atEnd
  else if s.inputs.line = false then
    dispatched s s.observed (micros (min (s.cfg.lineSettle.toNat - s.sinceRelease) (period - s.elapsed))) []
  else dispatched s s.observed (micros (period - s.elapsed)) []

/-- The outcome of a DISPATCH that starts a bit of value `b` in the state `next`: low, timed from now (43_transmit.md R200). -/
def bitStartOutcome (s : State) (e : Engine) (b : Bool) (next : StateCode) : State :=
  dispatched s { e with driveLevel := false, bitStartTime := s.inputs.now, state := next } (micros (if b then 600 else 1500)) []

/-- The engine at the start of a reception (42_receive.md R161; 41_frame_buffers.md R145). -/
def receptionStarted (e : Engine) (now : Micros) : Engine :=
  { e with receiveBitCount := 0, rxBitPos := 0, eom := false, ack := true, follower := false, broadcast := false,
           bitStartTime := now, state := 1 }

/-- The command words that 30_encoding.md R102 rejects, on the word as a number. -/
def ReservedEncoding (maxTypes : Nat) (w : Nat) : Prop :=
  let op := w / 2 ^ 28
  let ntypes := w / 2 ^ 8 % 8
  op = 0 ∨ 6 ≤ op ∨
    (op = 1 ∧ (w / 2 ^ 23 % 2 ^ 5 ≠ 0 ∨ w / 2 ^ 6 % 2 ^ 2 ≠ 0 ∨ maxTypes < ntypes ∨
      ∃ i, i < 4 ∧ ntypes ≤ i ∧ w / 2 ^ (11 + 3 * i) % 8 ≠ 0)) ∨
    (op = 2 ∧ w / 2 ^ 16 % 2 ^ 12 ≠ 0) ∨
    (op = 3 ∧ (w / 2 ^ 14 % 2 ^ 14 ≠ 0 ∨ (w / 2 ^ 13 % 2 = 1 ∧ w / 2 ^ 4 % 16 ≠ 0))) ∨
    ((op = 4 ∨ op = 5) ∧ w / 2 % 2 ^ 27 ≠ 0)

/-! ### Phases (10_state.md R32) -/

abbrev isReceiving (code : StateCode) : Prop := 1 ≤ code.toNat ∧ code.toNat ≤ 10

abbrev isTransmitting (code : StateCode) : Prop := 16 ≤ code.toNat ∧ code.toNat ≤ 26

/-- A code of 10_state.md R31. -/
abbrev isLegal (code : StateCode) : Prop := code.toNat ≤ 10 ∨ isTransmitting code

/-- The states in which this engine pulls the line low (10_state.md R31, R48 item 6). -/
abbrev isDriving (code : StateCode) : Prop := code.toNat ∈ [9, 10, 17, 19, 21, 23]

/-- The transmit states that still have a data bit to send: XmitStartBit1 and 2, XmitData1 and 2, XmitAckWait, XmitAck2. -/
abbrev hasBitToSend (code : StateCode) : Prop := code.toNat ∈ [17, 18, 19, 20, 25, 26]

/-- The transmit states at a byte's end: XmitEom1 and 2, XmitAck1, XmitAckTest. -/
abbrev atByteEnd (code : StateCode) : Prop := code.toNat ∈ [21, 22, 23, 24]

/-! ### Invariants -/

/-- The invariants of the frame buffers, the retry count and the line (10_state.md R48 items 1 to 4, 6, 7), with what makes them
inductive: where the cursor stands in each state, and the fixed sizes of the buffers. -/
structure Engine.LinkInv (c : Config) (e : Engine) : Prop where
  legal : isLegal e.state
  rxbufSize : e.rxbuf.length = c.rxCap
  txbufSize : e.txbuf.length = c.txCap
  /-- item 1 -/
  received : e.receiveBitCount.toNat ≤ c.rxCap * 8
  /-- item 2 -/
  frameFits : e.transmitByteCount.toNat ≤ c.txCap
  /-- item 2 -/
  frameWhileSending : e.transmitByteCount = 0 → ¬ isTransmitting e.state
  /-- item 3 -/
  cursorInFrame : e.transmitBitCursor.toNat ≤ e.transmitByteCount.toNat * 8
  cursorAtStart : e.state.toNat < 19 → e.transmitBitCursor = 0
  bitToSend : hasBitToSend e.state → e.transmitBitCursor.toNat < e.transmitByteCount.toNat * 8
  byteEnd : atByteEnd e.state → e.transmitBitCursor.toNat % 8 = 0 ∧
    (e.eom = true ↔ e.transmitBitCursor.toNat = e.transmitByteCount.toNat * 8)
  /-- item 4 -/
  retries : e.retryCount.toNat < c.maxAttempts
  /-- item 6, and its converse -/
  driving : e.driveLevel = false ↔ isDriving e.state
  /-- item 7 -/
  monitor : e.monitorMode = true → e.driveLevel = true ∧ e.transmitByteCount = 0

/-- The invariants of the allocator (10_state.md R48 item 5, R50; 45_allocator.md R261 to R268), with what makes them inductive: a run in
flight is a probe in the transmit buffer for a candidate the list holds. -/
structure Engine.AllocInv (c : Config) (e : Engine) : Prop where
  size : e.alloc.length = c.maxDeviceTypes
  count : e.allocCount.toNat ≤ c.maxDeviceTypes
  index : e.allocIndex.toNat ≤ e.allocCount.toNat
  /-- 10_state.md R24 -/
  unused : ∀ i, e.allocCount.toNat ≤ i → allocAt e i = AllocRecord.unused
  /-- 10_state.md R23 -/
  sentinelUnclaimed : e.logicalAddressMask.getLsbD 15 = false
  owned : e.probeOwned = e.allocActive
  probe : e.allocActive = true → e.transmitByteCount = 1
  /-- item 5 -/
  inFlight : e.allocActive = true → e.allocIndex.toNat < e.allocCount.toNat
  /-- item 5 -/
  resolvedBefore : e.allocActive = true → ∀ j, j < e.allocIndex.toNat → (allocAt e j).assigned ≠ unassigned
  /-- item 5 -/
  openAfter : e.allocActive = true → ∀ j, e.allocIndex.toNat ≤ j → j < e.allocCount.toNat → (allocAt e j).assigned = unassigned
  candidate : e.allocActive = true →
    (allocAt e e.allocIndex.toNat).cursor.toNat < (candidatesOf c (allocAt e e.allocIndex.toNat).devType).length

/-- The invariants of the machine: parameters in their ranges, R48, and the line port as the engine last drove it. -/
structure State.Inv (s : State) : Prop where
  config : s.cfg.WellFormed
  link : s.engine.LinkInv s.cfg
  alloc : s.engine.AllocInv s.cfg
  drive : s.ports.drive = s.engine.driveLevel

/-- A step that neither faults nor is refused. -/
def Safe (o : Host.Outcome State Fault Refusal) : Prop := ∃ t, o = .next t

/-! ### Premises on the environment -/

/-- The clock readings still to come never fall below the present one, and none below the one before (20_memory.md R76). -/
def ClockMonotone (p : Ports) : Prop := (p.clock :: p.upcoming.map (·.now)).Pairwise (· ≤ ·)

/-- No recorded time lies after the present clock reading. -/
def TimesPast (s : State) : Prop :=
  s.engine.lastStateChangeTime ≤ s.ports.clock ∧ s.engine.bitStartTime ≤ s.ports.clock ∧ s.engine.releaseTime ≤ s.ports.clock

/-- The level of a bus with two engines and no other node: high iff neither pulls it low (20_memory.md R75; 10_state.md R27). -/
def busOfTwo (a b : Engine) : Bool := a.driveLevel && b.driveLevel

end Sys2Proof.Machine
end

