-- ==== Sys2Proof/Certificates/Slice0/Obligations.lean ====
section
/-! DEFINITION. The statements for the provers, in the order of OBLIGATIONS.json. An equation `exec i s = .next t` over every state `s`
says that the instruction completes, what it leaves and, `t` being written as a change of named fields, everything it does not change. -/

open Sys2Proof Sys2Proof.Machine

/-! ### Encodings -/

/-- Words written out from 30_encoding.md R97 to R102 (the derivations of 95_test_vectors.md Part 3) and state codes of 10_state.md R31.
The payload byte follows its word as notes/assumptions/1.md says. -/
def Obligations.EncodingTableWordsDecode : Prop :=
  decodeTableWord 32 0x1001520F = some (.configure 15 false false 2 2 5 0 0) ∧
  decodeTableWord 32 0x10000034 = some (.configure 4 true true 0 0 0 0 0) ∧
  decodeTableWord 32 0x20001000 = some (.setPhys 0x1000) ∧
  decodeTableWord 40 0x3630002108 = some (.txEnqueue true 0 8 [0x36]) ∧
  decodeTableWord 32 0x3000004F = some (.txEnqueue false 4 15 []) ∧
  decodeTableWord 32 0x40000001 = some (.dispatch true) ∧
  decodeTableWord 32 0x50000000 = some (.readStatus false) ∧
  decodeTableWord 32 0x60000000 = some (.reservedOpcode 0x60000000 []) ∧
  decodeTableWord 32 0x10000500 = some (.reservedOpcode 0x10000500 []) ∧
  decodeTableWord 8 0 = some .stIdle ∧ decodeTableWord 8 9 = some .stRcvAckSent ∧ decodeTableWord 8 24 = some .stXmitAckTest ∧
  decodeTableWord 8 27 = some (.stReserved 27)

/-- Decode of encode is the instruction, for every well-formed instruction, commands and handler rows alike. -/
def Obligations.DecodeOfEncodeIsTheInstruction : Prop :=
  ∀ (maxTypes : Nat) (i : Instr), i.wf maxTypes = true → decode maxTypes (encode i) = i

/-- A well-formed command written to the command port (a byte stream, notes/assumptions/1.md) is read back, and the bytes after it stay. -/
def Obligations.CommandBytesAreReadBackWithTheRest : Prop :=
  ∀ (maxTypes : Nat) (i : Instr) (rest : List Byte), i.wf maxTypes = true → i.isCommand = true →
    decodeBytes maxTypes (encodeBytes i ++ rest) = .ok (i, rest)

/-- Whatever is read from the command port is a well-formed command whose bytes are exactly those taken
(notes/assumptions/1.md, notes/assumptions/3.md). -/
def Obligations.ReadCommandsReencodeToTheBytesTaken : Prop :=
  ∀ (maxTypes : Nat) (bytes rest : List Byte) (i : Instr), decodeBytes maxTypes bytes = .ok (i, rest) →
    i.wf maxTypes = true ∧ i.isCommand = true ∧ encodeBytes i ++ rest = bytes

/-- 30_encoding.md R102: exactly the words it lists are rejected, with `ERR_ENCODING` (word 0x10) and no engine state changed.
That a word comes off a byte stream with its LEN payload bytes is the model's choice, notes/assumptions/1.md, notes/assumptions/3.md. -/
def Obligations.ReservedEncodingsAreRejectedWithErrEncoding : Prop :=
  (∀ (s : State) (w : Word) (payload rest : List Byte), payload.length = payloadLength w →
    s.ports.command = bytesOfWord w ++ payload ++ rest → ReservedEncoding s.cfg.maxDeviceTypes w.toNat →
      step s = .next { s.withCommandBytes rest with response := some ⟨0x10, none, [], none⟩ }) ∧
  (∀ (maxTypes : Nat) (w w' : Word) (payload payload' : List Byte), ¬ ReservedEncoding maxTypes w.toNat →
    decodeCommand maxTypes w payload ≠ .reservedOpcode w' payload') ∧
  ∀ (s : State) (w : Word) (payload : List Byte),
    exec (.reservedOpcode w payload) s = .next { s with response := some ⟨0x10, none, [], none⟩ }

/-! ### The step -/

/-- A step runs the first whole command on the command port, taken off it (notes/assumptions/1.md). -/
def Obligations.StepRunsTheDecodedCommand : Prop :=
  ∀ (s : State) (i : Instr) (rest : List Byte), i.wf s.cfg.maxDeviceTypes = true →
    decodeBytes s.cfg.maxDeviceTypes s.ports.command = .ok (i, rest) → step s = exec i (s.withCommandBytes rest)

/-- With no whole command on the port a step changes nothing: the model's choice, notes/assumptions/2.md. -/
def Obligations.StepWithoutAWholeCommandChangesNothing : Prop :=
  (∀ s : State, s.ports.command.length < 4 → step s = .next s) ∧
  ∀ (s : State) (w : Word) (bytes : List Byte), s.ports.command = bytesOfWord w ++ bytes → bytes.length < payloadLength w →
    step s = .next s

/-- 30_encoding.md R95: the handler is selected by the state code; R100: whatever the hint. A handler row means the whole
DISPATCH with that handler, notes/assumptions/15.md. -/
def Obligations.DispatchRunsTheHandlerOfTheStateCode : Prop :=
  ∀ (s : State) (hint : Bool) (row : StateCode × Instr),
    row ∈ [((0 : StateCode), Instr.stIdle), (1, .stRcvStartBit1), (2, .stRcvStartBit2), (3, .stRcvData1), (4, .stRcvData2),
      (5, .stRcvEom1), (6, .stRcvEom2), (7, .stRcvAck1), (8, .stRcvAck2), (9, .stRcvAckSent), (10, .stRcvLineError),
      (16, .stXmitWait), (17, .stXmitStartBit1), (18, .stXmitStartBit2), (19, .stXmitData1), (20, .stXmitData2),
      (21, .stXmitEom1), (22, .stXmitEom2), (23, .stXmitAck1), (24, .stXmitAckTest), (25, .stXmitAckWait), (26, .stXmitAck2)] →
    s.engine.state = row.1 → exec (.dispatch hint) s = exec row.2 s

/-- 46_host_interface.md R283: a dispatch in a legal state completes; it samples both ports once, dates an edge, remembers the level, drives
the line port with what the handler left, and answers `OK` with a wait. With no reading listed the ports keep theirs,
notes/assumptions/4.md. -/
def Obligations.DispatchSamplesDrivesAndAnswers : Prop :=
  ∀ (s : State) (hint : Bool), isLegal s.engine.state →
    let seen := s.ports.upcoming.headD ⟨s.ports.line, s.ports.clock⟩
    ∃ t w events, exec (.dispatch hint) s = .next t ∧ exec (.dispatch (!hint)) s = .next t ∧
      t.engine.lastLineState = seen.line ∧
      t.engine.lastStateChangeTime = (if seen.line = s.engine.lastLineState then s.engine.lastStateChangeTime else seen.now) ∧
      t.ports = { line := seen.line, clock := seen.now, drive := t.engine.driveLevel, upcoming := s.ports.upcoming.tail,
                  command := s.ports.command } ∧
      t.response = some ⟨1, some w, events, none⟩ ∧ t.cfg = s.cfg

/-- 10_state.md R54: no instruction writes a reserved state code, no command but DISPATCH writes `state` at all, and a reserved code
met in `state` faults. -/
def Obligations.ReservedStateCodesAreUnreachableAndFault : Prop :=
  (∀ (i : Instr) (s t : State), isLegal s.engine.state → exec i s = .next t → isLegal t.engine.state) ∧
  (∀ (i : Instr) (s t : State), i.isCommand = true → (∀ hint, i ≠ .dispatch hint) → exec i s = .next t →
    t.engine.state = s.engine.state) ∧
  (∀ (s : State) (hint : Bool), ¬ isLegal s.engine.state → exec (.dispatch hint) s = .fault .reservedState) ∧
  ∀ (s : State) (code : StateCode), exec (.stReserved code) s = .fault .reservedState

/-- 60_exceptions.md R302: from every state with a legal code, whatever the level and the clock and whatever the command, a step gives a
next state; the only fault there is comes from a reserved code. -/
def Obligations.OnlyAReservedStateCodeFaults : Prop :=
  (∀ s : State, isLegal s.engine.state → Safe (step s)) ∧
  ∀ (s : State) (f : Fault), step s = .fault f → f = .reservedState ∧ ¬ isLegal s.engine.state

/-! ### Reset and invariants -/

/-- 70_reset_and_hazards.md R331. -/
def Obligations.ResetHoldsTheResetValues : Prop :=
  let e := State.reset.engine
  e.state = 0 ∧ e.driveLevel = true ∧ e.lastLineState = true ∧ e.lastStateChangeTime = 0 ∧ e.bitStartTime = 0 ∧ e.releaseTime = 0 ∧
  e.transmitByteCount = 0 ∧ e.transmitBitCursor = 0 ∧ e.retryCount = 0 ∧ e.receiveBitCount = 0 ∧ e.rxBitPos = 0 ∧
  e.eom = false ∧ e.ack = false ∧ e.follower = false ∧ e.broadcast = false ∧ e.wasLastTransmitter = false ∧
  e.address = 0 ∧ e.logicalAddressMask = 0 ∧ e.allocCount = 0 ∧ e.allocIndex = 0 ∧ (∀ i, allocAt e i = ⟨0, 0, 16⟩) ∧
  e.allocActive = false ∧ e.allocDone = false ∧ e.probeOwned = false ∧ e.physAddr = State.reset.cfg.noPhysAddr ∧
  e.promiscuous = false ∧ e.monitorMode = false ∧ (∀ b ∈ e.rxbuf, b = 0) ∧ (∀ b ∈ e.txbuf, b = 0)

/-- The invariants hold after reset, for all parameters in their ranges (notes/assumptions/10.md). -/
def Obligations.ResetMeetsTheInvariants : Prop := ∀ c : Config, c.WellFormed → (State.resetWith c).Inv

/-- 10_state.md R48: every step keeps the invariants, from every state that meets them; they hold R48 with the parts that make it
inductive, for parameters in the ranges of notes/assumptions/10.md. -/
def Obligations.StepKeepsTheInvariants : Prop := ∀ s t : State, s.Inv → step s = .next t → t.Inv

/-- No step writes a parameter; that State carries them is the model's choice, notes/assumptions/7.md. -/
def Obligations.StepNeverWritesTheParameters : Prop := ∀ s t : State, step s = .next t → t.cfg = s.cfg

/-- 10_state.md R42: only CONFIGURE writes `promiscuous` and `monitorMode`. -/
def Obligations.OnlyConfigureWritesTheToggles : Prop :=
  ∀ (i : Instr) (s t : State), (∀ a p m n t0 t1 t2 t3, i ≠ .configure a p m n t0 t1 t2 t3) → exec i s = .next t →
    t.engine.promiscuous = s.engine.promiscuous ∧ t.engine.monitorMode = s.engine.monitorMode

/-- 10_state.md R23, 45_allocator.md R265: every instruction but CONFIGURE keeps every bit of the mask; a bit is set only where a DISPATCH
ends an allocator's probe unacknowledged, and it is the candidate of the record in flight (a record beyond the list reads as unused,
notes/assumptions/11.md); SET_PHYS, TX_ENQUEUE, READ_STATUS and a rejected word change no bit; CONFIGURE clears the mask or, rejected,
changes no engine field. -/
def Obligations.OnlyConfigureClearsAClaimedAddress : Prop :=
  (∀ (i : Instr) (s t : State), (∀ a p m n t0 t1 t2 t3, i ≠ .configure a p m n t0 t1 t2 t3) → exec i s = .next t →
    (∀ a, s.engine.logicalAddressMask.getLsbD a = true → t.engine.logicalAddressMask.getLsbD a = true) ∧
    (t.engine.logicalAddressMask ≠ s.engine.logicalAddressMask →
      let r := allocAt s.engine s.engine.allocIndex.toNat
      s.engine.probeOwned = true ∧ (∃ frame later, t.events = .transmitComplete frame false :: later) ∧
      ∀ a, (candidatesOf s.cfg r.devType)[r.cursor.toNat]? = some a →
        t.engine.logicalAddressMask = s.engine.logicalAddressMask ||| BitVec.twoPow 16 a.toNat)) ∧
  (∀ (i : Instr) (s t : State), i.isCommand = true → (∀ hint, i ≠ .dispatch hint) →
    (∀ a p m n t0 t1 t2 t3, i ≠ .configure a p m n t0 t1 t2 t3) → exec i s = .next t →
    t.engine.logicalAddressMask = s.engine.logicalAddressMask) ∧
  ∀ (s t : State) (a : Addr) (p m : Bool) (n : BitVec 3) (t0 t1 t2 t3 : DevType), exec (.configure a p m n t0 t1 t2 t3) s = .next t →
    t.engine = s.engine ∨ t.engine.logicalAddressMask = 0

/-- Monitor mode "disables all line driving" (10_state.md R42): whatever a monitoring engine does next, the line port stays released. -/
def Obligations.MonitorModeNeverDrivesTheLine : Prop :=
  ∀ s t : State, s.Inv → s.engine.monitorMode = true → step s = .next t → t.ports.drive = true

/-- With a monotonic clock (20_memory.md R76) no recorded time ever lies in the future. The list of readings is the
model's, notes/assumptions/4.md. -/
def Obligations.RecordedTimesNeverPassTheClock : Prop :=
  ∀ s t : State, ClockMonotone s.ports → TimesPast s → step s = .next t → ClockMonotone t.ports ∧ TimesPast t

/-- 46_host_interface.md R285: which commands emit events, how many, and in which order. -/
def Obligations.EventsOfACommandFollowTheRules : Prop :=
  (∀ (s t : State) (hint : Bool), exec (.dispatch hint) s = .next t →
    t.events.length ≤ 1 ∨
    ∃ frame ok a, t.events = [.transmitComplete frame ok, .ready a] ∧ s.engine.probeOwned = true ∧ t.engine.allocActive = false ∧
      t.engine.allocDone = true) ∧
  (∀ (s t : State) (a : Addr) (p m : Bool) (n : BitVec 3) (t0 t1 t2 t3 : DevType), exec (.configure a p m n t0 t1 t2 t3) s = .next t →
    t.events = [] ∨ ∃ b, t.events = [.ready b] ∧ t.engine.allocDone = true) ∧
  ∀ (i : Instr) (s t : State), i.isCommand = true → (∀ hint, i ≠ .dispatch hint) →
    (∀ a p m n t0 t1 t2 t3, i ≠ .configure a p m n t0 t1 t2 t3) → exec i s = .next t → t.events = []

/-- 42_receive.md R188: a dispatch in a transmit state delivers no frame. -/
def Obligations.NoFrameIsReceivedWhileTransmitting : Prop :=
  ∀ (s t : State) (hint : Bool), isTransmitting s.engine.state → exec (.dispatch hint) s = .next t →
    ∀ bytes ok, Event.frameReceived bytes ok ∉ t.events

/-! ### Bit timing and frame buffers -/

/-- 40_timing_codec.md R122, R123, R124, R126: the windows, closed at both ends, of every duration. -/
def Obligations.DurationsAreClassifiedByTheirWindows : Prop :=
  ∀ d : Micros,
    (isStartLow d = true ↔ 3400 ≤ d.toNat ∧ d.toNat ≤ 4000) ∧
    (isStartPeriod d = true ↔ 4200 ≤ d.toNat) ∧
    (dataLow d = .bit1 ↔ 300 ≤ d.toNat ∧ d.toNat ≤ 900) ∧
    (dataLow d = .bit0 ↔ 1200 ≤ d.toNat ∧ d.toNat ≤ 1800) ∧
    (dataLow d = .outOfRange ↔ d.toNat < 300 ∨ (900 < d.toNat ∧ d.toNat < 1200) ∨ 1800 < d.toNat) ∧
    (isBitPeriod d = true ↔ 1950 ≤ d.toNat)

/-- 70_reset_and_hazards.md R340: with a host latency and a peer's deviation that together stay within 300 µs, every symbol at nominal
timing is classified as it was sent. -/
def Obligations.SymbolsWithinTheMarginAreClassifiedAsSent : Prop :=
  ∀ (latency deviation : Nat) (d : Micros), latency + deviation ≤ 300 →
    (∀ b : Bool, (lowTime b).toNat ≤ d.toNat + (latency + deviation) → d.toNat ≤ (lowTime b).toNat + (latency + deviation) →
      dataLow d = (if b then .bit1 else .bit0) ∧ decodedBit d = b) ∧
    (3700 ≤ d.toNat + (latency + deviation) → d.toNat ≤ 3700 + (latency + deviation) → isStartLow d = true) ∧
    (4500 ≤ d.toNat + (latency + deviation) → isStartPeriod d = true) ∧
    (2400 ≤ d.toNat + (latency + deviation) → isBitPeriod d = true)

/-- 41_frame_buffers.md R146: where a received bit goes, what else stays, when it is dropped; the header is recognised at the eighth bit. -/
def Obligations.ReceivedBitsFillTheBufferMostSignificantFirst : Prop :=
  ∀ (c : Config) (e : Engine) (b : Bool), c.rxCap ≤ 31 → e.rxbuf.length = c.rxCap →
    let n := e.receiveBitCount.toNat
    let e' := storeRxBit c b e
    e'.rxBitPos.toNat = (e.rxBitPos.toNat + 1) % 8 ∧
    (n < c.rxCap * 8 →
      e'.receiveBitCount.toNat = n + 1 ∧ e'.rxbuf.length = e.rxbuf.length ∧
      (∀ i j, i < c.rxCap → j < 8 →
        (byteAt e'.rxbuf i).getLsbD j = if i = n / 8 ∧ j = 7 - n % 8 then b else (byteAt e.rxbuf i).getLsbD j) ∧
      (n + 1 ≠ 8 → e' = { e with rxbuf := e'.rxbuf, receiveBitCount := e'.receiveBitCount, rxBitPos := e'.rxBitPos }) ∧
      (n + 1 = 8 → e' = headerComplete c
        { e with rxbuf := e'.rxbuf, receiveBitCount := e'.receiveBitCount, rxBitPos := e'.rxBitPos })) ∧
    (c.rxCap * 8 ≤ n → e' = { e with rxBitPos := e'.rxBitPos })

/-- 42_receive.md R172: follower and broadcast come from the destination nibble and the mask, and are never both set. The
broadcast address is the parameter BROADCAST_ADDR where R172 writes 0xF, notes/assumptions/9.md. -/
def Obligations.HeaderDestinationSetsFollowerAndBroadcast : Prop :=
  ∀ (c : Config) (e : Engine) (header : Byte), e.rxbuf.head? = some header →
    let dest := header.toNat % 16
    headerComplete c e =
      { e with
        broadcast := decide (dest = c.broadcastAddr.toNat)
        follower := decide (dest ≠ c.broadcastAddr.toNat) && e.logicalAddressMask.getLsbD dest } ∧
    ¬ ((headerComplete c e).follower = true ∧ (headerComplete c e).broadcast = true)

/-- Bit order on the wire (20_memory.md R63; 41_frame_buffers.md R143, R146): the eight bits `TxBit()` takes from byte `k` of a transmit
buffer, stored by a receiver at the same place, give the same byte. -/
def Obligations.AByteSentBitByBitArrivesUnchanged : Prop :=
  ∀ (c : Config) (sender receiver : Engine) (k : Nat) (b : Byte), c.rxCap ≤ 31 → receiver.rxbuf.length = c.rxCap → k < c.rxCap →
    sender.txbuf[k]? = some b → receiver.receiveBitCount = BitVec.ofNat 8 (8 * k) →
    (((List.range 8).foldl
      (fun r j => storeRxBit c (txBit { sender with transmitBitCursor := BitVec.ofNat 8 (8 * k + j) }) r) receiver).rxbuf)[k]? = some b

/-! ### Host commands -/

/-- 46_host_interface.md R281, 45_allocator.md R261, R262. `ERR_ENCODING` for operands no command word carries is the model's reading,
notes/assumptions/17.md. -/
def Obligations.ConfigureSetsTheEngineUpAndStartsAllocation : Prop :=
  ∀ (s : State) (laddr : Addr) (prom mon : Bool) (n : BitVec 3) (t0 t1 t2 t3 : DevType),
    let types := [t0, t1, t2, t3]
    let records := (List.range s.cfg.maxDeviceTypes).map fun i =>
      if i < n.toNat then (⟨types.getD i 0, 0, 16⟩ : AllocRecord) else ⟨0, 0, 16⟩
    let e := { s.engine with
      address := laddr, promiscuous := prom, monitorMode := mon, logicalAddressMask := 0, allocCount := n, alloc := records,
      allocIndex := 0, allocActive := false, allocDone := false, probeOwned := false }
    let run := probeCurrent s.cfg { e with allocActive := true }
    exec (.configure laddr prom mon n t0 t1 t2 t3) s = .next (
      if s.cfg.maxDeviceTypes < n.toNat ∨ (∃ i : Fin 4, n.toNat ≤ i.val ∧ types.getD i.val 0 ≠ 0) then
        { s with response := some ⟨0x10, none, [], none⟩ }
      else if s.engine.state ≠ 0 ∨ s.engine.transmitByteCount ≠ 0 then { s with response := some ⟨0x50, none, [], none⟩ }
      else if s.engine.physAddr ≠ s.cfg.noPhysAddr ∧ mon = false ∧ 0 < n.toNat then
        { s with engine := run.1, response := some ⟨1, none, run.2, none⟩ }
      else { s with engine := e, response := some ⟨1, none, [], none⟩ })

/-- 46_host_interface.md R282. -/
def Obligations.SetPhysWritesThePhysicalAddressOnly : Prop :=
  ∀ (s : State) (phys : BitVec 16),
    exec (.setPhys phys) s = .next { s with
      engine := { s.engine with physAddr := phys }, response := some ⟨1, none, [], none⟩ }

/-- 41_frame_buffers.md R141: the checks in order, then the frame in the transmit buffer; every other byte of it stays.
For operands no command word carries the answer is the model's reading, notes/assumptions/17.md; a transmit buffer shorter than TX_CAP
drops what does not fit, notes/assumptions/11.md. -/
def Obligations.TxEnqueueFillsTheTransmitBufferOrRejects : Prop :=
  ∀ (s : State) (srcSelf : Bool) (src dst : Addr) (payload : List Byte),
    let source := if srcSelf then s.engine.address else src
    ∃ buffer : List Byte,
      exec (.txEnqueue srcSelf src dst payload) s = .next (
        if srcSelf = true ∧ src ≠ 0 then { s with response := some ⟨0x10, none, [], none⟩ }
        else if s.engine.monitorMode = true then { s with response := some ⟨0x20, none, [], none⟩ }
        else if s.engine.transmitByteCount ≠ 0 then { s with response := some ⟨0x30, none, [], none⟩ }
        else if s.cfg.txCap ≤ payload.length then { s with response := some ⟨0x40, none, [], none⟩ }
        else { s with
          engine := { s.engine with
            txbuf := buffer, transmitByteCount := BitVec.ofNat 5 (payload.length + 1), transmitBitCursor := 0, retryCount := 0,
            probeOwned := false },
          response := some ⟨1, none, [], none⟩ }) ∧
      buffer.length = s.engine.txbuf.length ∧
      ∀ i, i < buffer.length →
        buffer[i]? = if i = 0 then some (BitVec.ofNat 8 (source.toNat * 16 + dst.toNat))
          else if i ≤ payload.length then payload[i - 1]? else s.engine.txbuf[i]?

/-- 46_host_interface.md R287 with the layouts of 10_state.md R45 and R46; nothing else changes. -/
def Obligations.ReadStatusAnswersTheStatusWords : Prop :=
  ∀ (s : State) (sel : Bool), ∃ w : Word,
    exec (.readStatus sel) s = .next { s with response := some ⟨1, none, [], some w⟩ } ∧
    let e := s.engine
    (sel = false →
      w.extractLsb' 0 5 = e.state ∧ w.getLsbD 5 = e.eom ∧ w.getLsbD 6 = e.ack ∧ w.getLsbD 7 = e.follower ∧
      w.getLsbD 8 = e.broadcast ∧ w.getLsbD 9 = e.wasLastTransmitter ∧ w.getLsbD 10 = e.promiscuous ∧
      w.getLsbD 11 = e.monitorMode ∧ w.getLsbD 12 = e.driveLevel ∧ w.getLsbD 13 = e.lastLineState ∧
      w.getLsbD 14 = e.allocActive ∧ w.getLsbD 15 = e.allocDone ∧ w.extractLsb' 16 4 = e.address ∧
      w.extractLsb' 20 4 = e.retryCount ∧ w.extractLsb' 24 5 = e.transmitByteCount ∧ w.extractLsb' 29 3 = e.allocIndex) ∧
    (sel = true →
      w.extractLsb' 0 16 = e.logicalAddressMask ∧ w.extractLsb' 16 8 = e.receiveBitCount ∧
      w.extractLsb' 24 8 = e.transmitBitCursor)

/-! ### Idle and the receive chain: one DISPATCH per equation -/

/-- 42_receive.md R160, R161. -/
def Obligations.IdleStartsAReceptionOrArbitration : Prop :=
  ∀ s : State, exec .stIdle s = .next (
    if s.inputs.fall then dispatched s (receptionStarted s.observed s.inputs.now) (micros (2 ^ 64 - 1)) []
    else if s.inputs.line = true ∧ s.engine.transmitByteCount ≠ 0 ∧ s.engine.monitorMode = false then
      dispatched s { s.observed with state := 16 } 0 []
    else dispatched s s.observed (micros (2 ^ 64 - 1)) [])

/-- 42_receive.md R163. -/
def Obligations.StartBitLowPhaseDecidesTheReception : Prop :=
  ∀ s : State, exec .stRcvStartBit1 s = .next (
    if s.inputs.rise then
      if 3400 ≤ s.elapsed ∧ s.elapsed ≤ 4000 then
        dispatched s { s.observed with state := 2 } (micros (s.cfg.rxStallTimeout.toNat - s.elapsed)) []
      else dispatched s { s.observed with state := 0 } (idleWait s.engine) []
    else dispatched s s.observed (micros (2 ^ 64 - 1)) [])

/-- 42_receive.md R164, R165. -/
def Obligations.StartBitPeriodDecidesTheReception : Prop :=
  ∀ s : State, exec .stRcvStartBit2 s = .next (
    if s.inputs.fall then
      if 4200 ≤ s.elapsed then
        dispatched s { s.observed with bitStartTime := s.inputs.now, wasLastTransmitter := false, state := 3 } (micros (2 ^ 64 - 1)) []
      else dispatched s { s.observed with state := 0 } (idleWait s.engine) []
    else stallOutcome s)

/-- 42_receive.md R166, with 40_timing_codec.md R125. -/
def Obligations.DataBitLowPhaseStoresABit : Prop :=
  ∀ s : State,
    let one := 300 ≤ s.elapsed ∧ s.elapsed ≤ 900
    let zero := 1200 ≤ s.elapsed ∧ s.elapsed ≤ 1800
    exec .stRcvData1 s = .next (
      if s.inputs.rise then
        dispatched s
          { storeRxBit s.cfg (decide ¬ zero) { s.observed with ack := s.engine.ack && decide (one ∨ zero) } with state := 4 }
          (micros (s.cfg.rxStallTimeout.toNat - s.elapsed)) []
      else dispatched s s.observed (micros (2 ^ 64 - 1)) [])

/-- 42_receive.md R168. -/
def Obligations.DataBitPeriodLeadsToTheNextBitOrALineError : Prop :=
  ∀ s : State, exec .stRcvData2 s = .next (
    if s.inputs.fall then
      if 1950 ≤ s.elapsed then
        dispatched s { s.observed with bitStartTime := s.inputs.now, state := if s.engine.rxBitPos = 0 then 5 else 3 }
          (micros (2 ^ 64 - 1)) []
      else lineErrorOutcome s
    else stallOutcome s)

/-- 42_receive.md R173, with 40_timing_codec.md R125. -/
def Obligations.EomLowPhaseSetsEom : Prop :=
  ∀ s : State,
    let one := 300 ≤ s.elapsed ∧ s.elapsed ≤ 900
    let zero := 1200 ≤ s.elapsed ∧ s.elapsed ≤ 1800
    exec .stRcvEom1 s = .next (
      if s.inputs.rise then
        dispatched s { s.observed with eom := decide ¬ zero, ack := s.engine.ack && decide (one ∨ zero), state := 6 }
          (micros (s.cfg.rxStallTimeout.toNat - s.elapsed)) []
      else dispatched s s.observed (micros (2 ^ 64 - 1)) [])

/-- 42_receive.md R175, with R174. -/
def Obligations.EomPeriodLeadsToAssertingOrWatchingTheAck : Prop :=
  ∀ s : State,
    let e := s.engine
    exec .stRcvEom2 s = .next (
      if s.inputs.fall then
        if 1950 ≤ s.elapsed then
          if e.monitorMode = false ∧ ((e.follower = true ∧ e.ack = true) ∨ (e.broadcast = true ∧ e.ack = false)) then
            dispatched s { s.observed with driveLevel := false, bitStartTime := s.inputs.now, state := 9 } (micros 1500) []
          else dispatched s { s.observed with bitStartTime := s.inputs.now, state := 7 } (micros (2 ^ 64 - 1)) []
        else lineErrorOutcome s
      else stallOutcome s)

/-- 42_receive.md R177, with R186. -/
def Obligations.AssertedAckIsReleasedAfterItsLowPhase : Prop :=
  ∀ s : State,
    let e := s.engine
    exec .stRcvAckSent s = .next (
      if 1500 ≤ s.elapsed then
        if e.eom = true ∨ e.ack = false then
          dispatched s { s.observed with driveLevel := true, state := 0 } (idleWait e)
            (if e.follower = true ∨ e.broadcast = true ∨ e.promiscuous = true then [.frameReceived (rxFrame e) e.ack] else [])
        else
          dispatched s { s.observed with driveLevel := true, state := 8 } (micros (s.cfg.rxStallTimeout.toNat - s.elapsed)) []
      else dispatched s s.observed (micros (1500 - s.elapsed)) [])

/-- 42_receive.md R178, with R179, R180 and R186. -/
def Obligations.ObservedAckBitDecidesTheVerdict : Prop :=
  ∀ s : State,
    let one := 300 ≤ s.elapsed ∧ s.elapsed ≤ 900
    let zero := 1200 ≤ s.elapsed ∧ s.elapsed ≤ 1800
    let e := s.engine
    let ack := e.ack && decide (one ∨ zero) && decide (e.broadcast = true ∧ ¬ zero ∨ e.broadcast = false ∧ zero)
    let involved := e.follower = true ∨ e.broadcast = true ∨ e.promiscuous = true
    exec .stRcvAck1 s = .next (
      if s.inputs.rise then
        if e.eom = true ∨ ack = false then
          dispatched s { s.observed with ack := ack, state := 0 } (idleWait e)
            (if involved then [.frameReceived (rxFrame e) ack] else [])
        else if involved then
          dispatched s { s.observed with ack := ack, state := 8 } (micros (s.cfg.rxStallTimeout.toNat - s.elapsed)) []
        else dispatched s { s.observed with ack := ack, state := 0 } (idleWait e) []
      else dispatched s s.observed (micros (2 ^ 64 - 1)) [])

/-- 42_receive.md R181. -/
def Obligations.AckPeriodLeadsToTheNextByte : Prop :=
  ∀ s : State, exec .stRcvAck2 s = .next (
    if s.inputs.fall then
      if 1950 ≤ s.elapsed then
        dispatched s { s.observed with bitStartTime := s.inputs.now, state := 3 } (micros (2 ^ 64 - 1)) []
      else lineErrorOutcome s
    else stallOutcome s)

/-- 42_receive.md R184. -/
def Obligations.LineErrorIsHeldThenReleased : Prop :=
  ∀ s : State, exec .stRcvLineError s = .next (
    if s.cfg.lineErrorHold.toNat ≤ s.elapsed then
      dispatched s { s.observed with driveLevel := true, state := 0 } (idleWait s.engine) []
    else dispatched s s.observed (micros (s.cfg.lineErrorHold.toNat - s.elapsed)) [])

/-! ### Arbitration and the transmit chain: one DISPATCH per equation -/

/-- 44_arbitration.md R242, with R240, R241 and 43_transmit.md R201: a falling edge defers, the tiers are 3, 7 and 5 bit periods.
The broadcast flag compares with the parameter BROADCAST_ADDR where R201 writes 0xF, notes/assumptions/9.md. -/
def Obligations.XmitWaitStartsAFrameAfterItsIdleTier : Prop :=
  ∀ s : State,
    let e := s.observed
    let idle := since s.inputs.now e.lastStateChangeTime
    let required := if e.retryCount ≠ 0 then 7200 else if e.wasLastTransmitter = true then 16800 else 12000
    exec .stXmitWait s = .next (
      if s.inputs.fall then dispatched s (receptionStarted e s.inputs.now) (micros (2 ^ 64 - 1)) []
      else if s.inputs.line = false then dispatched s { e with state := 0 } (micros (2 ^ 64 - 1)) []
      else if required ≤ idle then
        dispatched s
          { e with
            broadcast := decide ((byteAt e.txbuf 0).toNat % 16 = s.cfg.broadcastAddr.toNat), eom := false, transmitBitCursor := 0,
            driveLevel := false, bitStartTime := s.inputs.now, state := 17 }
          (micros 3700) []
      else dispatched s e (micros (required - idle)) [])

/-- 43_transmit.md R202, R205, R207: the start bit, a data bit and the EOM bit hold the line low for 3700, 600 or 1500 µs, unless the
line reads high, which is a collision. -/
def Obligations.SentLowPhasesLastTheirNominalTime : Prop :=
  ∀ s : State,
    exec .stXmitStartBit1 s = .next (lowPhaseOutcome s 3700 4500 18) ∧
    exec .stXmitData1 s = .next (lowPhaseOutcome s (if txBit s.engine then 600 else 1500) 2400 20) ∧
    exec .stXmitEom1 s = .next (lowPhaseOutcome s (if s.engine.eom then 600 else 1500) 2400 22)

/-- 43_transmit.md R203, R208: after the start bit's 4500 µs the first data bit, after the EOM bit's 2400 µs the ack bit. -/
def Obligations.StartAndEomPeriodsLeadToTheNextSymbol : Prop :=
  ∀ s : State,
    exec .stXmitStartBit2 s = .next (highPhaseOutcome s 4500 (bitStartOutcome s s.observed (txBit s.engine) 19)) ∧
    exec .stXmitEom2 s = .next (highPhaseOutcome s 2400 (bitStartOutcome s s.observed true 23))

/-- 43_transmit.md R206: after the data bit's 2400 µs the cursor advances; after eight bits the EOM bit, 1 iff the frame is exhausted. -/
def Obligations.DataPeriodAdvancesTheCursor : Prop :=
  ∀ s : State,
    let next := (s.engine.transmitBitCursor.toNat + 1) % 256
    let e := { s.observed with transmitBitCursor := BitVec.ofNat 8 next }
    let last := decide (next / 8 = s.engine.transmitByteCount.toNat)
    exec .stXmitData2 s = .next (highPhaseOutcome s 2400 (
      if next % 8 = 0 then bitStartOutcome s { e with eom := last } last 21
      else bitStartOutcome s e (txBit e) 19))

/-- 43_transmit.md R209. -/
def Obligations.AckLowPhaseIsReleasedForTheSample : Prop :=
  ∀ s : State, exec .stXmitAck1 s = .next (
    if s.inputs.line = true then collisionOutcome s
    else if 600 ≤ s.elapsed then
      dispatched s { s.observed with driveLevel := true, state := 24 } (micros (1050 - s.elapsed)) []
    else dispatched s s.observed (micros (600 - s.elapsed)) [])

/-- 43_transmit.md R210, R211: the level at the sample point decides, with inverted polarity for a broadcast. -/
def Obligations.AckSampleDecidesTheAttempt : Prop :=
  ∀ s : State,
    let e := s.observed
    exec .stXmitAckTest s = .next (
      if s.elapsed < 1050 then dispatched s e (micros (1050 - s.elapsed)) []
      else if s.inputs.line ≠ e.broadcast then dispatchedReply s (transmitFailed s.cfg e)
      else if e.eom = true then dispatchedReply s (finishTransmit s.cfg true { e with wasLastTransmitter := true })
      else dispatched s { e with state := if s.inputs.line = true then 26 else 25 } (micros (2400 - s.elapsed)) [])

/-- 43_transmit.md R212. -/
def Obligations.AckWaitEndsAtTheReleaseOrAsACollision : Prop :=
  ∀ s : State, exec .stXmitAckWait s = .next (
    if s.inputs.line = true then dispatched s { s.observed with state := 26 } (micros (2400 - s.elapsed)) []
    else if 2400 ≤ s.elapsed then collisionOutcome s
    else dispatched s s.observed (micros (2400 - s.elapsed)) [])

/-- 43_transmit.md R213. -/
def Obligations.AckPeriodLeadsToTheNextSentByte : Prop :=
  ∀ s : State, exec .stXmitAck2 s = .next (
    if s.inputs.line = false then collisionOutcome s
    else if 2400 ≤ s.elapsed then bitStartOutcome s s.observed (txBit s.engine) 19
    else dispatched s s.observed (micros (2400 - s.elapsed)) [])

/-- Arbitration on a shared bus (43_transmit.md R218, R214; 20_memory.md R75): of two engines, one that has released a 1 while the other
still drives a 0 sees the collision once the settle time is over, and the other sees nothing: no event, its retry count, cursor and frame as they were. -/
def Obligations.TheSenderOfAOneLosesArbitration : Prop :=
  ∀ loser winner : State, loser.engine.state = 20 → winner.engine.state = 19 → winner.engine.driveLevel = false →
    loser.inputs.line = busOfTwo loser.engine winner.engine → winner.inputs.line = busOfTwo loser.engine winner.engine →
    loser.cfg.lineSettle.toNat ≤ loser.sinceRelease →
    exec (.dispatch false) loser = .next (collisionOutcome loser) ∧
    ∃ t, exec (.dispatch false) winner = .next t ∧ (t.engine.state = 19 ∨ t.engine.state = 20) ∧ t.events = [] ∧
      t.engine.retryCount = winner.engine.retryCount ∧ t.engine.transmitBitCursor = winner.engine.transmitBitCursor ∧
      t.engine.transmitByteCount = winner.engine.transmitByteCount ∧ t.engine.txbuf = winner.engine.txbuf

/-! ### Outcomes of an attempt and the allocator -/

/-- 44_arbitration.md R243, R244, R245, R246: a one-byte frame and the last attempt end the frame, any other failure is retried. -/
def Obligations.AFailedAttemptIsRetriedOrEndsTheFrame : Prop :=
  ∀ (c : Config) (e : Engine),
    transmitFailed c e =
      if e.transmitByteCount = 1 ∨ c.maxAttempts ≤ e.retryCount.toNat + 1 then finishTransmit c false { e with driveLevel := true }
      else ⟨{ e with driveLevel := true, retryCount := e.retryCount + 1, transmitBitCursor := 0, state := 0 }, idleWait e, []⟩

/-- 44_arbitration.md R248: the frame is reported once, the buffer emptied, and a probe's outcome handed to the allocator. -/
def Obligations.AFinishedFrameIsReportedOnceAndEmptied : Prop :=
  ∀ (c : Config) (ok : Bool) (e : Engine),
    let frame := e.txbuf.take e.transmitByteCount.toNat
    let emptied := { e with transmitByteCount := 0, transmitBitCursor := 0, retryCount := 0, probeOwned := false }
    let resolved := allocatorResolve c ok emptied
    finishTransmit c ok e =
      if e.probeOwned = true then ⟨{ resolved.1 with state := 0 }, idleWait resolved.1, .transmitComplete frame ok :: resolved.2⟩
      else ⟨{ emptied with state := 0 }, micros (2 ^ 64 - 1), [.transmitComplete frame ok]⟩

/-- 45_allocator.md R264, R265: an acknowledged probe moves the record to its next candidate, an unacknowledged one claims the candidate in
the record and, but for the sentinel, in the mask; then the run goes on. A record beyond the list reads as unused and a write to it does
nothing, notes/assumptions/11.md. -/
def Obligations.AProbeOutcomeMovesOnOrClaims : Prop :=
  ∀ (c : Config) (e : Engine),
    let k := e.allocIndex.toNat
    let r := allocAt e k
    allocatorResolve c true e = probeCurrent c { e with alloc := e.alloc.set k { r with cursor := r.cursor + 1 } } ∧
    ∀ a, (candidatesOf c r.devType)[r.cursor.toNat]? = some a →
      allocatorResolve c false e = probeCurrent c
        { e with
          alloc := e.alloc.set k { r with assigned := BitVec.ofNat 5 a.toNat }
          logicalAddressMask := if a = c.unregisteredAddr then e.logicalAddressMask
            else e.logicalAddressMask ||| BitVec.twoPow 16 a.toNat
          allocIndex := e.allocIndex + 1 }

/-- 45_allocator.md R263, R266, R267: the records whose candidates are exhausted fall back to the sentinel; the first other one is probed;
with none left the run ends with READY for record 0's address. A record beyond the list reads as unused and a write to it does nothing,
notes/assumptions/11.md. -/
def Obligations.ProbingSkipsExhaustedRecordsOrFinishes : Prop :=
  ∀ (c : Config) (e : Engine), e.allocIndex.toNat ≤ e.allocCount.toNat →
    let exhausted := fun j => (candidatesOf c (allocAt e j).devType).length ≤ (allocAt e j).cursor.toNat
    let fallenBack := fun k => e.alloc.mapIdx fun j r =>
      if e.allocIndex.toNat ≤ j ∧ j < k then { r with assigned := BitVec.ofNat 5 c.unregisteredAddr.toNat } else r
    (∀ k a, e.allocIndex.toNat ≤ k → k < e.allocCount.toNat → (∀ j, e.allocIndex.toNat ≤ j → j < k → exhausted j) →
      (candidatesOf c (allocAt e k).devType)[(allocAt e k).cursor.toNat]? = some a →
      probeCurrent c e =
        ({ e with
            alloc := fallenBack k, allocIndex := BitVec.ofNat 3 k, txbuf := e.txbuf.set 0 (BitVec.ofNat 8 (a.toNat * 16 + a.toNat)),
            transmitByteCount := 1, transmitBitCursor := 0, retryCount := 0, probeOwned := true }, [])) ∧
    ((∀ j, e.allocIndex.toNat ≤ j → j < e.allocCount.toNat → exhausted j) →
      let alloc := fallenBack e.allocCount.toNat
      let primary : Addr := BitVec.ofNat 4 (alloc.getD 0 ⟨0, 0, 16⟩).assigned.toNat
      probeCurrent c e =
        ({ e with alloc := alloc, allocIndex := e.allocCount, allocActive := false, allocDone := true, address := primary },
          [.ready primary]))

/-! ### Frames of the handlers -/

/-- Idle and the receive chain (42_receive.md R160 to R184) leave the transmit side, the allocator, the configuration, the parameters and
the command port alone, and only RcvData1 writes the receive buffer, in the one byte the bit count points to. -/
def Obligations.ReceiveHandlersLeaveTheRestUnchanged : Prop :=
  ∀ (i : Instr) (s t : State),
    i ∈ [Instr.stIdle, .stRcvStartBit1, .stRcvStartBit2, .stRcvData1, .stRcvData2, .stRcvEom1, .stRcvEom2, .stRcvAck1, .stRcvAck2,
      .stRcvAckSent, .stRcvLineError] → exec i s = .next t →
    let e := s.engine
    let e' := t.engine
    e'.address = e.address ∧ e'.logicalAddressMask = e.logicalAddressMask ∧ e'.alloc = e.alloc ∧ e'.allocCount = e.allocCount ∧
    e'.allocIndex = e.allocIndex ∧ e'.allocActive = e.allocActive ∧ e'.allocDone = e.allocDone ∧ e'.probeOwned = e.probeOwned ∧
    e'.physAddr = e.physAddr ∧ e'.releaseTime = e.releaseTime ∧ e'.txbuf = e.txbuf ∧ e'.transmitByteCount = e.transmitByteCount ∧
    e'.transmitBitCursor = e.transmitBitCursor ∧ e'.retryCount = e.retryCount ∧ e'.promiscuous = e.promiscuous ∧
    e'.monitorMode = e.monitorMode ∧ t.cfg = s.cfg ∧ t.ports.command = s.ports.command ∧
    (i ≠ .stRcvStartBit2 → e'.wasLastTransmitter = e.wasLastTransmitter) ∧
    (i ≠ .stIdle → i ≠ .stRcvEom1 → e'.eom = e.eom) ∧
    (i ≠ .stIdle → i ≠ .stRcvData1 → e'.follower = e.follower ∧ e'.broadcast = e.broadcast ∧
      e'.receiveBitCount = e.receiveBitCount ∧ e'.rxBitPos = e.rxBitPos) ∧
    (i ∉ [Instr.stIdle, .stRcvData1, .stRcvEom1, .stRcvAck1] → e'.ack = e.ack) ∧
    ∀ k, (i = .stRcvData1 → k ≠ e.receiveBitCount.toNat / 8) → e'.rxbuf[k]? = e.rxbuf[k]?

/-- The transmit chain and XmitWait (43_transmit.md R202 to R213; 44_arbitration.md R242) leave the receive buffer, the physical address,
the number of records, the toggles, the parameters and the command port alone; the transmit buffer changes only in byte 0 and only when
the frame was an allocator's probe; the receive cursors and flags change only when XmitWait defers to a reception. -/
def Obligations.TransmitHandlersLeaveTheRestUnchanged : Prop :=
  ∀ (i : Instr) (s t : State),
    i ∈ [Instr.stXmitWait, .stXmitStartBit1, .stXmitStartBit2, .stXmitData1, .stXmitData2, .stXmitEom1, .stXmitEom2, .stXmitAck1,
      .stXmitAckTest, .stXmitAckWait, .stXmitAck2] → exec i s = .next t →
    let e := s.engine
    let e' := t.engine
    e'.rxbuf = e.rxbuf ∧ e'.physAddr = e.physAddr ∧ e'.allocCount = e.allocCount ∧ e'.promiscuous = e.promiscuous ∧
    e'.monitorMode = e.monitorMode ∧ t.cfg = s.cfg ∧ t.ports.command = s.ports.command ∧
    (i ≠ .stXmitWait → e'.receiveBitCount = e.receiveBitCount ∧ e'.rxBitPos = e.rxBitPos ∧ e'.ack = e.ack ∧
      e'.follower = e.follower ∧ e'.broadcast = e.broadcast) ∧
    (i ≠ .stXmitAckTest → e'.wasLastTransmitter = e.wasLastTransmitter) ∧
    (e.probeOwned = false →
      e'.txbuf = e.txbuf ∧ e'.address = e.address ∧ e'.logicalAddressMask = e.logicalAddressMask ∧ e'.alloc = e.alloc ∧
      e'.allocIndex = e.allocIndex ∧ e'.allocActive = e.allocActive ∧ e'.allocDone = e.allocDone ∧ e'.probeOwned = false) ∧
    ∀ k, k ≠ 0 → e'.txbuf[k]? = e.txbuf[k]?
end

