-- ==== Sys2Proof/Laws/Codec.lean ====
section
/-! SUPPORT. The codec and the clock arithmetic in natural numbers: comparisons and differences of `u64` durations. -/

namespace Sys2Proof.Machine

open Sys2Proof

theorem toNat_sub_eq_since (now t : Micros) : (now - t).toNat = since now t := by
  rw [BitVec.toNat_sub, since]
  congr 1
  omega

@[simp] theorem elapsed_toNat (x : Inputs) (e : Engine) : (elapsed x e).toNat = since x.now e.bitStartTime :=
  toNat_sub_eq_since _ _

@[simp] theorem sinceRelease_toNat (x : Inputs) (e : Engine) : (sinceRelease x e).toNat = since x.now e.releaseTime :=
  toNat_sub_eq_since _ _

@[simp] theorem idleFor_toNat (x : Inputs) (e : Engine) : (idleFor x e).toNat = since x.now e.lastStateChangeTime :=
  toNat_sub_eq_since _ _

theorem since_lt (now t : Micros) : since now t < 2 ^ 64 := Nat.mod_lt _ (by decide)

/-- Without a wrap the difference is the difference of the readings (20_memory.md R76). -/
theorem since_of_le {now t : Micros} (h : t ≤ now) : since now t = now.toNat - t.toNat := by
  have := now.isLt
  have := BitVec.le_def.mp h
  simp only [since]
  omega

theorem sub_eq_micros {t d : Micros} (h : d.toNat ≤ t.toNat) : t - d = micros (t.toNat - d.toNat) := by
  apply BitVec.eq_of_toNat_eq
  have := t.isLt
  rw [BitVec.toNat_sub, BitVec.toNat_ofNat]
  omega

/-- `Rem(T)` is the truncated difference (43_transmit.md R200). -/
theorem remaining_eq (t : Micros) (x : Inputs) (e : Engine) :
    remaining t x e = micros (t.toNat - since x.now e.bitStartTime) := by
  unfold remaining
  split <;> rename_i h
  · rw [BitVec.le_def, elapsed_toNat] at h
    rw [Nat.sub_eq_zero_of_le h]
    rfl
  · rw [BitVec.le_def, elapsed_toNat] at h
    rw [sub_eq_micros (by rw [elapsed_toNat]; omega), elapsed_toNat]

theorem minMicros_eq (a b : Micros) : minMicros a b = micros (min a.toNat b.toNat) := by
  apply BitVec.eq_of_toNat_eq
  have := a.isLt
  have := b.isLt
  unfold minMicros
  split <;> rename_i h <;> rw [BitVec.le_def] at h <;> rw [BitVec.toNat_ofNat] <;> omega

theorem micros_toNat {n : Nat} (h : n < 2 ^ 64) : (micros n).toNat = n := by
  rw [BitVec.toNat_ofNat]
  omega

@[simp] theorem startLowNom_toNat : startLowNom.toNat = 3700 := rfl
@[simp] theorem startPeriodNom_toNat : startPeriodNom.toNat = 4500 := rfl
@[simp] theorem bitPeriodNom_toNat : bitPeriodNom.toNat = 2400 := rfl
@[simp] theorem ackSample_toNat : ackSample.toNat = 1050 := rfl
@[simp] theorem lowTime_true : lowTime true = micros 600 := rfl
@[simp] theorem lowTime_false : lowTime false = micros 1500 := rfl
@[simp] theorem lowTime_toNat (b : Bool) : (lowTime b).toNat = if b then 600 else 1500 := by cases b <;> rfl

/-- The three outcomes of `DataLow(d)` (40_timing_codec.md R124) in numbers. -/
theorem dataLow_cases (d : Micros) :
    (dataLow d = .bit1 ∧ 300 ≤ d.toNat ∧ d.toNat ≤ 900) ∨ (dataLow d = .bit0 ∧ 1200 ≤ d.toNat ∧ d.toNat ≤ 1800) ∨
      (dataLow d = .outOfRange ∧ (d.toNat < 300 ∨ (900 < d.toNat ∧ d.toNat < 1200) ∨ 1800 < d.toNat)) := by
  have h1 : (bit1LowNom - bit1LowTol).toNat = 300 := rfl
  have h2 : (bit1LowNom + bit1LowTol).toNat = 900 := rfl
  have h3 : (bit0LowNom - bit0LowTol).toNat = 1200 := rfl
  have h4 : (bit0LowNom + bit0LowTol).toNat = 1800 := rfl
  simp only [dataLow, inWindow, Bool.and_eq_true, decide_eq_true_eq, BitVec.le_def, h1, h2, h3, h4]
  split
  · simp_all
  · split
    · simp_all
    · right; right
      exact ⟨rfl, by omega⟩

/-- `InWindow` (40_timing_codec.md R121) for a window that does not wrap. -/
theorem inWindow_iff (d nom tol : Micros) (h : tol.toNat ≤ nom.toNat) (h' : nom.toNat + tol.toNat < 2 ^ 64) :
    inWindow d nom tol = true ↔ nom.toNat - tol.toNat ≤ d.toNat ∧ d.toNat ≤ nom.toNat + tol.toNat := by
  have : (nom - tol).toNat = nom.toNat - tol.toNat := BitVec.toNat_sub_of_le (BitVec.le_def.mpr h)
  simp only [inWindow, Bool.and_eq_true, decide_eq_true_eq, BitVec.le_def, this, BitVec.toNat_add, Nat.mod_eq_of_lt h']

/-- `DecodeDataBit(d)` (40_timing_codec.md R125) returns 0 exactly inside the 0-window. -/
theorem decodedBit_eq (d : Micros) : decodedBit d = decide ¬ (1200 ≤ d.toNat ∧ d.toNat ≤ 1800) := by
  rw [Bool.eq_iff_iff, decide_eq_true_iff, decodedBit, bne_iff_ne]
  rcases dataLow_cases d with ⟨h, _⟩ | ⟨h, _⟩ | ⟨h, _⟩ <;> rw [h]
  · exact ⟨fun _ => by omega, fun _ => by decide⟩
  · exact ⟨fun hne => absurd rfl hne, fun hne => by omega⟩
  · exact ⟨fun _ => by omega, fun _ => by decide⟩

/-- `DecodeDataBit(d)` (40_timing_codec.md R125) keeps `ack` exactly inside the two windows. -/
theorem inRange_eq (d : Micros) : (dataLow d != .outOfRange) =
    decide ((300 ≤ d.toNat ∧ d.toNat ≤ 900) ∨ (1200 ≤ d.toNat ∧ d.toNat ≤ 1800)) := by
  rw [Bool.eq_iff_iff, decide_eq_true_iff, bne_iff_ne]
  rcases dataLow_cases d with ⟨h, _⟩ | ⟨h, _⟩ | ⟨h, _⟩ <;> rw [h]
  · exact ⟨fun _ => by omega, fun _ => by decide⟩
  · exact ⟨fun _ => by omega, fun _ => by decide⟩
  · exact ⟨fun hne => absurd rfl hne, fun hne => by omega⟩

theorem waitEdge_eq : waitEdge = micros (2 ^ 64 - 1) := rfl

theorem framePending_iff (e : Engine) : framePending e = true ↔ e.transmitByteCount ≠ 0 ∧ e.monitorMode = false := by
  simp [framePending]

theorem returnToIdle_eq (e : Engine) (events : List Event) :
    returnToIdle e events = ⟨{ e with state := 0 }, idleWait e, events⟩ := by
  simp only [returnToIdle, goto, LinkState.code, idleWait, framePending_iff, waitEdge_eq]

end Sys2Proof.Machine
end

