-- ==== Sys2Proof/Laws/Allocator.lean ====
section
/-! SUPPORT. What an allocation run, the outcome of a probe and the outcome of an attempt can do (spec/45_allocator.md;
spec/44_arbitration.md): one lemma per shared operation. -/

namespace Sys2Proof.Machine

open Sys2Proof

/-- The fields an allocation run may write (45_allocator.md R263, R265, R266); everything else is as before. -/
structure SameOutsideAllocation (e e' : Engine) : Prop where
  eq : e' =
    { e with
      address := e'.address, logicalAddressMask := e'.logicalAddressMask, alloc := e'.alloc, allocIndex := e'.allocIndex,
      allocActive := e'.allocActive, allocDone := e'.allocDone, probeOwned := e'.probeOwned, txbuf := e'.txbuf,
      transmitByteCount := e'.transmitByteCount, transmitBitCursor := e'.transmitBitCursor, retryCount := e'.retryCount }
  txbufLength : e'.txbuf.length = e.txbuf.length
  txbufTail : ∀ k, k ≠ 0 → e'.txbuf[k]? = e.txbuf[k]?
  transmitByteCount : e'.transmitByteCount = e.transmitByteCount ∨ e'.transmitByteCount = 1
  transmitBitCursor : e'.transmitBitCursor = e.transmitBitCursor ∨ e'.transmitBitCursor = 0
  retryCount : e'.retryCount = e.retryCount ∨ e'.retryCount = 0
  mask : ∀ a, e.logicalAddressMask.getLsbD a = true → e'.logicalAddressMask.getLsbD a = true

theorem SameOutsideAllocation.refl (e : Engine) : SameOutsideAllocation e e :=
  ⟨rfl, rfl, fun _ _ => rfl, .inl rfl, .inl rfl, .inl rfl, fun _ => id⟩

/-- `Claim` (45_allocator.md R265). -/
theorem claim_same (c : Config) (a : Addr) (e : Engine) : SameOutsideAllocation e (claim c a e) := by
  refine ⟨rfl, rfl, fun _ _ => rfl, .inl rfl, .inl rfl, .inl rfl, fun b h => ?_⟩
  simp only [claim]
  split
  · exact h
  · simp [claimInMask, h]

theorem SameOutsideAllocation.trans {e e' e'' : Engine} (h : SameOutsideAllocation e e') (h' : SameOutsideAllocation e' e'') :
    SameOutsideAllocation e e'' := by
  refine ⟨?_, h'.txbufLength.trans h.txbufLength, fun k hk => (h'.txbufTail k hk).trans (h.txbufTail k hk), ?_, ?_, ?_,
    fun a ha => h'.mask a (h.mask a ha)⟩
  · have h1 := h.eq
    have h2 := h'.eq
    rw [h1] at h2
    exact h2
  · rcases h'.transmitByteCount with k | k
    · rcases h.transmitByteCount with k' | k'
      · exact .inl (k.trans k')
      · exact .inr (k.trans k')
    · exact .inr k
  · rcases h'.transmitBitCursor with k | k
    · rcases h.transmitBitCursor with k' | k'
      · exact .inl (k.trans k')
      · exact .inr (k.trans k')
    · exact .inr k
  · rcases h'.retryCount with k | k
    · rcases h.retryCount with k' | k'
      · exact .inl (k.trans k')
      · exact .inr (k.trans k')
    · exact .inr k

/-- `ProbeCurrent` (45_allocator.md R263). -/
theorem probeLoop_same (c : Config) (n : Nat) (e : Engine) : SameOutsideAllocation e (probeLoop c n e).1 := by
  induction n generalizing e with
  | zero => exact ⟨rfl, rfl, fun _ _ => rfl, .inl rfl, .inl rfl, .inl rfl, fun _ => id⟩
  | succ n ih =>
    unfold probeLoop
    dsimp only
    split
    · exact (claim_same c _ e).trans (ih _)
    · refine ⟨rfl, ?_, fun k hk => ?_, .inr rfl, .inr rfl, .inr rfl, fun _ => id⟩
      · simp [loadProbe]
      · simp [loadProbe, Ne.symm hk]

/-- The events of `ProbeCurrent`: none when it loads a probe, one READY when the run ends (45_allocator.md R263, R266). -/
theorem probeLoop_events (c : Config) (n : Nat) (e : Engine) :
    ((probeLoop c n e).2 = [] ∧ (probeLoop c n e).1.probeOwned = true ∧ (probeLoop c n e).1.transmitByteCount = 1) ∨
      ((probeLoop c n e).2 = [.ready (probeLoop c n e).1.address] ∧ (probeLoop c n e).1.allocActive = false ∧
        (probeLoop c n e).1.allocDone = true) := by
  induction n generalizing e with
  | zero => exact .inr ⟨rfl, rfl, rfl⟩
  | succ n ih =>
    unfold probeLoop
    dsimp only
    split
    · exact ih _
    · exact .inl ⟨rfl, rfl, rfl⟩

/-- The loop sets no bit of the mask: its only claims are of the sentinel (45_allocator.md R265, R267). -/
theorem probeLoop_mask (c : Config) (n : Nat) (e : Engine) :
    (probeLoop c n e).1.logicalAddressMask = e.logicalAddressMask := by
  induction n generalizing e with
  | zero => rfl
  | succ n ih =>
    unfold probeLoop
    dsimp only
    split
    · rw [ih]
      simp [claim]
    · rfl

/-- `AllocatorResolve` (45_allocator.md R264) claims the candidate of the record in flight, or changes no bit of the mask. -/
theorem allocatorResolve_mask (c : Config) (acked : Bool) (e : Engine) :
    (allocatorResolve c acked e).1.logicalAddressMask = e.logicalAddressMask ∨
      acked = false ∧ (allocatorResolve c acked e).1.logicalAddressMask = claimInMask e.logicalAddressMask
        (candidateAt c (allocAt e e.allocIndex.toNat).devType (allocAt e e.allocIndex.toNat).cursor.toNat) := by
  unfold allocatorResolve
  dsimp only
  split
  · exact .inl (probeLoop_mask _ _ _)
  · rw [probeCurrent, probeLoop_mask]
    simp only [claim]
    split
    · exact .inl rfl
    · exact .inr ⟨Bool.eq_false_iff.mpr ‹_›, rfl⟩

/-- `AllocatorResolve` (45_allocator.md R264) is a run of the loop from an engine that differs only in allocation fields. -/
theorem allocatorResolve_eq (c : Config) (acked : Bool) (e : Engine) :
    ∃ n e', allocatorResolve c acked e = probeLoop c n e' ∧ SameOutsideAllocation e e' := by
  unfold allocatorResolve
  dsimp only
  split
  · exact ⟨_, _, rfl, rfl, rfl, fun _ _ => rfl, .inl rfl, .inl rfl, .inl rfl, fun _ => id⟩
  · exact ⟨_, _, rfl, claim_same c _ e⟩

theorem allocatorResolve_same (c : Config) (acked : Bool) (e : Engine) :
    SameOutsideAllocation e (allocatorResolve c acked e).1 := by
  obtain ⟨n, e', h, h'⟩ := allocatorResolve_eq c acked e
  rw [h]
  exact h'.trans (probeLoop_same c n e')

/-- What `FinishTransmit` (44_arbitration.md R248) can do: without a probe the frame's report alone and no allocation field; with one the
report, then what the allocator emits. -/
theorem finishTransmit_cases (c : Config) (ok : Bool) (e : Engine) :
    (e.probeOwned = false ∧
      (finishTransmit c ok e).engine =
        { e with transmitByteCount := 0, transmitBitCursor := 0, retryCount := 0, probeOwned := false, state := 0 } ∧
      (finishTransmit c ok e).events = [.transmitComplete (txFrame e) ok]) ∨
    (e.probeOwned = true ∧ ∃ n e₁ e₂,
      SameOutsideAllocation { e with transmitByteCount := 0, transmitBitCursor := 0, retryCount := 0, probeOwned := false } e₁ ∧
      e₂ = (probeLoop c n e₁).1 ∧ (finishTransmit c ok e).engine = { e₂ with state := 0 } ∧
      (finishTransmit c ok e).events = .transmitComplete (txFrame e) ok :: (probeLoop c n e₁).2) := by
  cases h : e.probeOwned with
  | false =>
    refine .inl ⟨rfl, ?_, ?_⟩ <;> simp [finishTransmit, h, returnToIdle_eq]
  | true =>
    obtain ⟨n, e', h1, h2⟩ := allocatorResolve_eq c ok
      { e with transmitByteCount := 0, transmitBitCursor := 0, retryCount := 0, probeOwned := false }
    have hf : finishTransmit c ok e =
        returnToIdle (probeLoop c n e').1 (.transmitComplete (txFrame e) ok :: (probeLoop c n e').2) := by
      unfold finishTransmit
      dsimp only
      rw [if_pos h, h1]
    exact .inr ⟨rfl, n, e', _, h2, rfl, by rw [hf]; rfl, by rw [hf]; rfl⟩

/-- `FinishTransmit` (44_arbitration.md R248) changes the mask only for an allocator's probe that was not acknowledged. -/
theorem finishTransmit_mask (c : Config) (ok : Bool) (e : Engine) :
    (finishTransmit c ok e).engine.logicalAddressMask = e.logicalAddressMask ∨
      e.probeOwned = true ∧ ok = false ∧ (finishTransmit c ok e).engine.logicalAddressMask = claimInMask e.logicalAddressMask
        (candidateAt c (allocAt e e.allocIndex.toNat).devType (allocAt e e.allocIndex.toNat).cursor.toNat) := by
  unfold finishTransmit
  dsimp only
  simp only [returnToIdle_eq]
  split
  · rcases allocatorResolve_mask c ok
      { e with transmitByteCount := 0, transmitBitCursor := 0, retryCount := 0, probeOwned := false } with h | ⟨hok, h⟩
    · exact .inl h
    · exact .inr ⟨‹_›, hok, h⟩
  · exact .inl rfl

/-- What `TransmitFailed` (44_arbitration.md R243) can do: a retry, or the end of the frame. -/
theorem transmitFailed_cases (c : Config) (e : Engine) :
    (transmitFailed c e = finishTransmit c false { e with driveLevel := true } ∧
      (e.transmitByteCount = 1 ∨ c.maxAttempts ≤ e.retryCount.toNat + 1)) ∨
    (transmitFailed c e =
        ⟨{ e with driveLevel := true, retryCount := e.retryCount + 1, transmitBitCursor := 0, state := 0 }, idleWait e, []⟩ ∧
      e.transmitByteCount ≠ 1 ∧ e.retryCount.toNat + 1 < c.maxAttempts) := by
  unfold transmitFailed
  dsimp only
  split
  · exact .inl ⟨rfl, .inl ‹_›⟩
  · split
    · exact .inl ⟨rfl, .inr ‹_›⟩
    · exact .inr ⟨returnToIdle_eq _ _, ‹_›, Nat.lt_of_not_le ‹_›⟩

end Sys2Proof.Machine
end

