-- ==== Sys2Proof/Laws/State.lean ====
section
/-! SUPPORT. One lemma per field per update, true by unfolding, so that no later proof unfolds a record update. -/

namespace Sys2Proof.Machine

open Sys2Proof

/-! ### Updates of the state -/

section StateUpdates

variable (s : State) (e : Engine) (bytes : List Byte) (r : RejectReason) (wait : Micros) (events : List Event)

@[simp] theorem withCommandBytes_cfg : (s.withCommandBytes bytes).cfg = s.cfg := rfl
@[simp] theorem withCommandBytes_engine : (s.withCommandBytes bytes).engine = s.engine := rfl
@[simp] theorem withCommandBytes_response : (s.withCommandBytes bytes).response = s.response := rfl
@[simp] theorem withCommandBytes_ports : (s.withCommandBytes bytes).ports = { s.ports with command := bytes } := rfl
@[simp] theorem rejectWith_cfg : (rejectWith r s).cfg = s.cfg := rfl
@[simp] theorem rejectWith_engine : (rejectWith r s).engine = s.engine := rfl
@[simp] theorem rejectWith_ports : (rejectWith r s).ports = s.ports := rfl
@[simp] theorem rejectWith_response : (rejectWith r s).response = some ⟨rejectWord r, none, [], none⟩ := rfl
@[simp] theorem acceptWith_cfg : (acceptWith e events s).cfg = s.cfg := rfl
@[simp] theorem acceptWith_engine : (acceptWith e events s).engine = e := rfl
@[simp] theorem acceptWith_ports : (acceptWith e events s).ports = s.ports := rfl
@[simp] theorem acceptWith_response : (acceptWith e events s).response = some ⟨okWord, none, events, none⟩ := rfl
@[simp] theorem dispatched_cfg : (dispatched s e wait events).cfg = s.cfg := rfl
@[simp] theorem dispatched_engine : (dispatched s e wait events).engine = e := rfl
@[simp] theorem dispatched_ports :
    (dispatched s e wait events).ports = { samplePorts s.ports with drive := e.driveLevel } := rfl
@[simp] theorem dispatched_response : (dispatched s e wait events).response = some ⟨okWord, some wait, events, none⟩ := rfl

end StateUpdates

/-! ### goto -/

section

variable (S : LinkState) (e : Engine)

@[simp] theorem goto_address : (goto S e).address = e.address := rfl
@[simp] theorem goto_logicalAddressMask : (goto S e).logicalAddressMask = e.logicalAddressMask := rfl
@[simp] theorem goto_alloc : (goto S e).alloc = e.alloc := rfl
@[simp] theorem goto_allocCount : (goto S e).allocCount = e.allocCount := rfl
@[simp] theorem goto_allocIndex : (goto S e).allocIndex = e.allocIndex := rfl
@[simp] theorem goto_allocActive : (goto S e).allocActive = e.allocActive := rfl
@[simp] theorem goto_allocDone : (goto S e).allocDone = e.allocDone := rfl
@[simp] theorem goto_probeOwned : (goto S e).probeOwned = e.probeOwned := rfl
@[simp] theorem goto_physAddr : (goto S e).physAddr = e.physAddr := rfl
@[simp] theorem goto_lastLineState : (goto S e).lastLineState = e.lastLineState := rfl
@[simp] theorem goto_driveLevel : (goto S e).driveLevel = e.driveLevel := rfl
@[simp] theorem goto_lastStateChangeTime : (goto S e).lastStateChangeTime = e.lastStateChangeTime := rfl
@[simp] theorem goto_bitStartTime : (goto S e).bitStartTime = e.bitStartTime := rfl
@[simp] theorem goto_releaseTime : (goto S e).releaseTime = e.releaseTime := rfl
@[simp] theorem goto_state : (goto S e).state = S.code := rfl
@[simp] theorem goto_rxbuf : (goto S e).rxbuf = e.rxbuf := rfl
@[simp] theorem goto_receiveBitCount : (goto S e).receiveBitCount = e.receiveBitCount := rfl
@[simp] theorem goto_rxBitPos : (goto S e).rxBitPos = e.rxBitPos := rfl
@[simp] theorem goto_txbuf : (goto S e).txbuf = e.txbuf := rfl
@[simp] theorem goto_transmitByteCount : (goto S e).transmitByteCount = e.transmitByteCount := rfl
@[simp] theorem goto_transmitBitCursor : (goto S e).transmitBitCursor = e.transmitBitCursor := rfl
@[simp] theorem goto_retryCount : (goto S e).retryCount = e.retryCount := rfl
@[simp] theorem goto_eom : (goto S e).eom = e.eom := rfl
@[simp] theorem goto_ack : (goto S e).ack = e.ack := rfl
@[simp] theorem goto_follower : (goto S e).follower = e.follower := rfl
@[simp] theorem goto_broadcast : (goto S e).broadcast = e.broadcast := rfl
@[simp] theorem goto_wasLastTransmitter : (goto S e).wasLastTransmitter = e.wasLastTransmitter := rfl
@[simp] theorem goto_promiscuous : (goto S e).promiscuous = e.promiscuous := rfl
@[simp] theorem goto_monitorMode : (goto S e).monitorMode = e.monitorMode := rfl

end

/-! ### driveLine -/

section

variable (b : Bool) (e : Engine)

@[simp] theorem driveLine_address : (driveLine b e).address = e.address := rfl
@[simp] theorem driveLine_logicalAddressMask : (driveLine b e).logicalAddressMask = e.logicalAddressMask := rfl
@[simp] theorem driveLine_alloc : (driveLine b e).alloc = e.alloc := rfl
@[simp] theorem driveLine_allocCount : (driveLine b e).allocCount = e.allocCount := rfl
@[simp] theorem driveLine_allocIndex : (driveLine b e).allocIndex = e.allocIndex := rfl
@[simp] theorem driveLine_allocActive : (driveLine b e).allocActive = e.allocActive := rfl
@[simp] theorem driveLine_allocDone : (driveLine b e).allocDone = e.allocDone := rfl
@[simp] theorem driveLine_probeOwned : (driveLine b e).probeOwned = e.probeOwned := rfl
@[simp] theorem driveLine_physAddr : (driveLine b e).physAddr = e.physAddr := rfl
@[simp] theorem driveLine_lastLineState : (driveLine b e).lastLineState = e.lastLineState := rfl
@[simp] theorem driveLine_driveLevel : (driveLine b e).driveLevel = b := rfl
@[simp] theorem driveLine_lastStateChangeTime : (driveLine b e).lastStateChangeTime = e.lastStateChangeTime := rfl
@[simp] theorem driveLine_bitStartTime : (driveLine b e).bitStartTime = e.bitStartTime := rfl
@[simp] theorem driveLine_releaseTime : (driveLine b e).releaseTime = e.releaseTime := rfl
@[simp] theorem driveLine_state : (driveLine b e).state = e.state := rfl
@[simp] theorem driveLine_rxbuf : (driveLine b e).rxbuf = e.rxbuf := rfl
@[simp] theorem driveLine_receiveBitCount : (driveLine b e).receiveBitCount = e.receiveBitCount := rfl
@[simp] theorem driveLine_rxBitPos : (driveLine b e).rxBitPos = e.rxBitPos := rfl
@[simp] theorem driveLine_txbuf : (driveLine b e).txbuf = e.txbuf := rfl
@[simp] theorem driveLine_transmitByteCount : (driveLine b e).transmitByteCount = e.transmitByteCount := rfl
@[simp] theorem driveLine_transmitBitCursor : (driveLine b e).transmitBitCursor = e.transmitBitCursor := rfl
@[simp] theorem driveLine_retryCount : (driveLine b e).retryCount = e.retryCount := rfl
@[simp] theorem driveLine_eom : (driveLine b e).eom = e.eom := rfl
@[simp] theorem driveLine_ack : (driveLine b e).ack = e.ack := rfl
@[simp] theorem driveLine_follower : (driveLine b e).follower = e.follower := rfl
@[simp] theorem driveLine_broadcast : (driveLine b e).broadcast = e.broadcast := rfl
@[simp] theorem driveLine_wasLastTransmitter : (driveLine b e).wasLastTransmitter = e.wasLastTransmitter := rfl
@[simp] theorem driveLine_promiscuous : (driveLine b e).promiscuous = e.promiscuous := rfl
@[simp] theorem driveLine_monitorMode : (driveLine b e).monitorMode = e.monitorMode := rfl

end

/-! ### observe -/

section

variable (x : Inputs) (e : Engine)

@[simp] theorem observe_address : (observe x e).address = e.address := rfl
@[simp] theorem observe_logicalAddressMask : (observe x e).logicalAddressMask = e.logicalAddressMask := rfl
@[simp] theorem observe_alloc : (observe x e).alloc = e.alloc := rfl
@[simp] theorem observe_allocCount : (observe x e).allocCount = e.allocCount := rfl
@[simp] theorem observe_allocIndex : (observe x e).allocIndex = e.allocIndex := rfl
@[simp] theorem observe_allocActive : (observe x e).allocActive = e.allocActive := rfl
@[simp] theorem observe_allocDone : (observe x e).allocDone = e.allocDone := rfl
@[simp] theorem observe_probeOwned : (observe x e).probeOwned = e.probeOwned := rfl
@[simp] theorem observe_physAddr : (observe x e).physAddr = e.physAddr := rfl
@[simp] theorem observe_lastLineState : (observe x e).lastLineState = x.line := rfl
@[simp] theorem observe_driveLevel : (observe x e).driveLevel = e.driveLevel := rfl
@[simp] theorem observe_lastStateChangeTime : (observe x e).lastStateChangeTime = (if x.changed then x.now else e.lastStateChangeTime) := rfl
@[simp] theorem observe_bitStartTime : (observe x e).bitStartTime = e.bitStartTime := rfl
@[simp] theorem observe_releaseTime : (observe x e).releaseTime = e.releaseTime := rfl
@[simp] theorem observe_state : (observe x e).state = e.state := rfl
@[simp] theorem observe_rxbuf : (observe x e).rxbuf = e.rxbuf := rfl
@[simp] theorem observe_receiveBitCount : (observe x e).receiveBitCount = e.receiveBitCount := rfl
@[simp] theorem observe_rxBitPos : (observe x e).rxBitPos = e.rxBitPos := rfl
@[simp] theorem observe_txbuf : (observe x e).txbuf = e.txbuf := rfl
@[simp] theorem observe_transmitByteCount : (observe x e).transmitByteCount = e.transmitByteCount := rfl
@[simp] theorem observe_transmitBitCursor : (observe x e).transmitBitCursor = e.transmitBitCursor := rfl
@[simp] theorem observe_retryCount : (observe x e).retryCount = e.retryCount := rfl
@[simp] theorem observe_eom : (observe x e).eom = e.eom := rfl
@[simp] theorem observe_ack : (observe x e).ack = e.ack := rfl
@[simp] theorem observe_follower : (observe x e).follower = e.follower := rfl
@[simp] theorem observe_broadcast : (observe x e).broadcast = e.broadcast := rfl
@[simp] theorem observe_wasLastTransmitter : (observe x e).wasLastTransmitter = e.wasLastTransmitter := rfl
@[simp] theorem observe_promiscuous : (observe x e).promiscuous = e.promiscuous := rfl
@[simp] theorem observe_monitorMode : (observe x e).monitorMode = e.monitorMode := rfl

end

/-! ### receiveReset -/

section

variable (e : Engine)

@[simp] theorem receiveReset_address : (receiveReset e).address = e.address := rfl
@[simp] theorem receiveReset_logicalAddressMask : (receiveReset e).logicalAddressMask = e.logicalAddressMask := rfl
@[simp] theorem receiveReset_alloc : (receiveReset e).alloc = e.alloc := rfl
@[simp] theorem receiveReset_allocCount : (receiveReset e).allocCount = e.allocCount := rfl
@[simp] theorem receiveReset_allocIndex : (receiveReset e).allocIndex = e.allocIndex := rfl
@[simp] theorem receiveReset_allocActive : (receiveReset e).allocActive = e.allocActive := rfl
@[simp] theorem receiveReset_allocDone : (receiveReset e).allocDone = e.allocDone := rfl
@[simp] theorem receiveReset_probeOwned : (receiveReset e).probeOwned = e.probeOwned := rfl
@[simp] theorem receiveReset_physAddr : (receiveReset e).physAddr = e.physAddr := rfl
@[simp] theorem receiveReset_lastLineState : (receiveReset e).lastLineState = e.lastLineState := rfl
@[simp] theorem receiveReset_driveLevel : (receiveReset e).driveLevel = e.driveLevel := rfl
@[simp] theorem receiveReset_lastStateChangeTime : (receiveReset e).lastStateChangeTime = e.lastStateChangeTime := rfl
@[simp] theorem receiveReset_bitStartTime : (receiveReset e).bitStartTime = e.bitStartTime := rfl
@[simp] theorem receiveReset_releaseTime : (receiveReset e).releaseTime = e.releaseTime := rfl
@[simp] theorem receiveReset_state : (receiveReset e).state = e.state := rfl
@[simp] theorem receiveReset_rxbuf : (receiveReset e).rxbuf = e.rxbuf := rfl
@[simp] theorem receiveReset_receiveBitCount : (receiveReset e).receiveBitCount = 0 := rfl
@[simp] theorem receiveReset_rxBitPos : (receiveReset e).rxBitPos = 0 := rfl
@[simp] theorem receiveReset_txbuf : (receiveReset e).txbuf = e.txbuf := rfl
@[simp] theorem receiveReset_transmitByteCount : (receiveReset e).transmitByteCount = e.transmitByteCount := rfl
@[simp] theorem receiveReset_transmitBitCursor : (receiveReset e).transmitBitCursor = e.transmitBitCursor := rfl
@[simp] theorem receiveReset_retryCount : (receiveReset e).retryCount = e.retryCount := rfl
@[simp] theorem receiveReset_eom : (receiveReset e).eom = false := rfl
@[simp] theorem receiveReset_ack : (receiveReset e).ack = true := rfl
@[simp] theorem receiveReset_follower : (receiveReset e).follower = false := rfl
@[simp] theorem receiveReset_broadcast : (receiveReset e).broadcast = false := rfl
@[simp] theorem receiveReset_wasLastTransmitter : (receiveReset e).wasLastTransmitter = e.wasLastTransmitter := rfl
@[simp] theorem receiveReset_promiscuous : (receiveReset e).promiscuous = e.promiscuous := rfl
@[simp] theorem receiveReset_monitorMode : (receiveReset e).monitorMode = e.monitorMode := rfl

end

/-! ### startReception -/

section

variable (x : Inputs) (e : Engine)

@[simp] theorem startReception_address : (startReception x e).address = e.address := rfl
@[simp] theorem startReception_logicalAddressMask : (startReception x e).logicalAddressMask = e.logicalAddressMask := rfl
@[simp] theorem startReception_alloc : (startReception x e).alloc = e.alloc := rfl
@[simp] theorem startReception_allocCount : (startReception x e).allocCount = e.allocCount := rfl
@[simp] theorem startReception_allocIndex : (startReception x e).allocIndex = e.allocIndex := rfl
@[simp] theorem startReception_allocActive : (startReception x e).allocActive = e.allocActive := rfl
@[simp] theorem startReception_allocDone : (startReception x e).allocDone = e.allocDone := rfl
@[simp] theorem startReception_probeOwned : (startReception x e).probeOwned = e.probeOwned := rfl
@[simp] theorem startReception_physAddr : (startReception x e).physAddr = e.physAddr := rfl
@[simp] theorem startReception_lastLineState : (startReception x e).lastLineState = e.lastLineState := rfl
@[simp] theorem startReception_driveLevel : (startReception x e).driveLevel = e.driveLevel := rfl
@[simp] theorem startReception_lastStateChangeTime : (startReception x e).lastStateChangeTime = e.lastStateChangeTime := rfl
@[simp] theorem startReception_bitStartTime : (startReception x e).bitStartTime = x.now := rfl
@[simp] theorem startReception_releaseTime : (startReception x e).releaseTime = e.releaseTime := rfl
@[simp] theorem startReception_state : (startReception x e).state = e.state := rfl
@[simp] theorem startReception_rxbuf : (startReception x e).rxbuf = e.rxbuf := rfl
@[simp] theorem startReception_receiveBitCount : (startReception x e).receiveBitCount = 0 := rfl
@[simp] theorem startReception_rxBitPos : (startReception x e).rxBitPos = 0 := rfl
@[simp] theorem startReception_txbuf : (startReception x e).txbuf = e.txbuf := rfl
@[simp] theorem startReception_transmitByteCount : (startReception x e).transmitByteCount = e.transmitByteCount := rfl
@[simp] theorem startReception_transmitBitCursor : (startReception x e).transmitBitCursor = e.transmitBitCursor := rfl
@[simp] theorem startReception_retryCount : (startReception x e).retryCount = e.retryCount := rfl
@[simp] theorem startReception_eom : (startReception x e).eom = false := rfl
@[simp] theorem startReception_ack : (startReception x e).ack = true := rfl
@[simp] theorem startReception_follower : (startReception x e).follower = false := rfl
@[simp] theorem startReception_broadcast : (startReception x e).broadcast = false := rfl
@[simp] theorem startReception_wasLastTransmitter : (startReception x e).wasLastTransmitter = e.wasLastTransmitter := rfl
@[simp] theorem startReception_promiscuous : (startReception x e).promiscuous = e.promiscuous := rfl
@[simp] theorem startReception_monitorMode : (startReception x e).monitorMode = e.monitorMode := rfl

end

/-! ### releaseLine -/

section

variable (x : Inputs) (e : Engine)

@[simp] theorem releaseLine_address : (releaseLine x e).address = e.address := rfl
@[simp] theorem releaseLine_logicalAddressMask : (releaseLine x e).logicalAddressMask = e.logicalAddressMask := rfl
@[simp] theorem releaseLine_alloc : (releaseLine x e).alloc = e.alloc := rfl
@[simp] theorem releaseLine_allocCount : (releaseLine x e).allocCount = e.allocCount := rfl
@[simp] theorem releaseLine_allocIndex : (releaseLine x e).allocIndex = e.allocIndex := rfl
@[simp] theorem releaseLine_allocActive : (releaseLine x e).allocActive = e.allocActive := rfl
@[simp] theorem releaseLine_allocDone : (releaseLine x e).allocDone = e.allocDone := rfl
@[simp] theorem releaseLine_probeOwned : (releaseLine x e).probeOwned = e.probeOwned := rfl
@[simp] theorem releaseLine_physAddr : (releaseLine x e).physAddr = e.physAddr := rfl
@[simp] theorem releaseLine_lastLineState : (releaseLine x e).lastLineState = e.lastLineState := rfl
@[simp] theorem releaseLine_driveLevel : (releaseLine x e).driveLevel = true := rfl
@[simp] theorem releaseLine_lastStateChangeTime : (releaseLine x e).lastStateChangeTime = e.lastStateChangeTime := rfl
@[simp] theorem releaseLine_bitStartTime : (releaseLine x e).bitStartTime = e.bitStartTime := rfl
@[simp] theorem releaseLine_releaseTime : (releaseLine x e).releaseTime = x.now := rfl
@[simp] theorem releaseLine_state : (releaseLine x e).state = e.state := rfl
@[simp] theorem releaseLine_rxbuf : (releaseLine x e).rxbuf = e.rxbuf := rfl
@[simp] theorem releaseLine_receiveBitCount : (releaseLine x e).receiveBitCount = e.receiveBitCount := rfl
@[simp] theorem releaseLine_rxBitPos : (releaseLine x e).rxBitPos = e.rxBitPos := rfl
@[simp] theorem releaseLine_txbuf : (releaseLine x e).txbuf = e.txbuf := rfl
@[simp] theorem releaseLine_transmitByteCount : (releaseLine x e).transmitByteCount = e.transmitByteCount := rfl
@[simp] theorem releaseLine_transmitBitCursor : (releaseLine x e).transmitBitCursor = e.transmitBitCursor := rfl
@[simp] theorem releaseLine_retryCount : (releaseLine x e).retryCount = e.retryCount := rfl
@[simp] theorem releaseLine_eom : (releaseLine x e).eom = e.eom := rfl
@[simp] theorem releaseLine_ack : (releaseLine x e).ack = e.ack := rfl
@[simp] theorem releaseLine_follower : (releaseLine x e).follower = e.follower := rfl
@[simp] theorem releaseLine_broadcast : (releaseLine x e).broadcast = e.broadcast := rfl
@[simp] theorem releaseLine_wasLastTransmitter : (releaseLine x e).wasLastTransmitter = e.wasLastTransmitter := rfl
@[simp] theorem releaseLine_promiscuous : (releaseLine x e).promiscuous = e.promiscuous := rfl
@[simp] theorem releaseLine_monitorMode : (releaseLine x e).monitorMode = e.monitorMode := rfl

end

/-! ### clearAckIfOutOfRange -/

section

variable (d : Micros) (e : Engine)

@[simp] theorem clearAckIfOutOfRange_address : (clearAckIfOutOfRange d e).address = e.address := rfl
@[simp] theorem clearAckIfOutOfRange_logicalAddressMask : (clearAckIfOutOfRange d e).logicalAddressMask = e.logicalAddressMask := rfl
@[simp] theorem clearAckIfOutOfRange_alloc : (clearAckIfOutOfRange d e).alloc = e.alloc := rfl
@[simp] theorem clearAckIfOutOfRange_allocCount : (clearAckIfOutOfRange d e).allocCount = e.allocCount := rfl
@[simp] theorem clearAckIfOutOfRange_allocIndex : (clearAckIfOutOfRange d e).allocIndex = e.allocIndex := rfl
@[simp] theorem clearAckIfOutOfRange_allocActive : (clearAckIfOutOfRange d e).allocActive = e.allocActive := rfl
@[simp] theorem clearAckIfOutOfRange_allocDone : (clearAckIfOutOfRange d e).allocDone = e.allocDone := rfl
@[simp] theorem clearAckIfOutOfRange_probeOwned : (clearAckIfOutOfRange d e).probeOwned = e.probeOwned := rfl
@[simp] theorem clearAckIfOutOfRange_physAddr : (clearAckIfOutOfRange d e).physAddr = e.physAddr := rfl
@[simp] theorem clearAckIfOutOfRange_lastLineState : (clearAckIfOutOfRange d e).lastLineState = e.lastLineState := rfl
@[simp] theorem clearAckIfOutOfRange_driveLevel : (clearAckIfOutOfRange d e).driveLevel = e.driveLevel := rfl
@[simp] theorem clearAckIfOutOfRange_lastStateChangeTime : (clearAckIfOutOfRange d e).lastStateChangeTime = e.lastStateChangeTime := rfl
@[simp] theorem clearAckIfOutOfRange_bitStartTime : (clearAckIfOutOfRange d e).bitStartTime = e.bitStartTime := rfl
@[simp] theorem clearAckIfOutOfRange_releaseTime : (clearAckIfOutOfRange d e).releaseTime = e.releaseTime := rfl
@[simp] theorem clearAckIfOutOfRange_state : (clearAckIfOutOfRange d e).state = e.state := rfl
@[simp] theorem clearAckIfOutOfRange_rxbuf : (clearAckIfOutOfRange d e).rxbuf = e.rxbuf := rfl
@[simp] theorem clearAckIfOutOfRange_receiveBitCount : (clearAckIfOutOfRange d e).receiveBitCount = e.receiveBitCount := rfl
@[simp] theorem clearAckIfOutOfRange_rxBitPos : (clearAckIfOutOfRange d e).rxBitPos = e.rxBitPos := rfl
@[simp] theorem clearAckIfOutOfRange_txbuf : (clearAckIfOutOfRange d e).txbuf = e.txbuf := rfl
@[simp] theorem clearAckIfOutOfRange_transmitByteCount : (clearAckIfOutOfRange d e).transmitByteCount = e.transmitByteCount := rfl
@[simp] theorem clearAckIfOutOfRange_transmitBitCursor : (clearAckIfOutOfRange d e).transmitBitCursor = e.transmitBitCursor := rfl
@[simp] theorem clearAckIfOutOfRange_retryCount : (clearAckIfOutOfRange d e).retryCount = e.retryCount := rfl
@[simp] theorem clearAckIfOutOfRange_eom : (clearAckIfOutOfRange d e).eom = e.eom := rfl
@[simp] theorem clearAckIfOutOfRange_ack : (clearAckIfOutOfRange d e).ack = (e.ack && dataLow d != .outOfRange) := rfl
@[simp] theorem clearAckIfOutOfRange_follower : (clearAckIfOutOfRange d e).follower = e.follower := rfl
@[simp] theorem clearAckIfOutOfRange_broadcast : (clearAckIfOutOfRange d e).broadcast = e.broadcast := rfl
@[simp] theorem clearAckIfOutOfRange_wasLastTransmitter : (clearAckIfOutOfRange d e).wasLastTransmitter = e.wasLastTransmitter := rfl
@[simp] theorem clearAckIfOutOfRange_promiscuous : (clearAckIfOutOfRange d e).promiscuous = e.promiscuous := rfl
@[simp] theorem clearAckIfOutOfRange_monitorMode : (clearAckIfOutOfRange d e).monitorMode = e.monitorMode := rfl

end

/-! ### headerComplete -/

section

variable (c : Config) (e : Engine)

@[simp] theorem headerComplete_address : (headerComplete c e).address = e.address := rfl
@[simp] theorem headerComplete_logicalAddressMask : (headerComplete c e).logicalAddressMask = e.logicalAddressMask := rfl
@[simp] theorem headerComplete_alloc : (headerComplete c e).alloc = e.alloc := rfl
@[simp] theorem headerComplete_allocCount : (headerComplete c e).allocCount = e.allocCount := rfl
@[simp] theorem headerComplete_allocIndex : (headerComplete c e).allocIndex = e.allocIndex := rfl
@[simp] theorem headerComplete_allocActive : (headerComplete c e).allocActive = e.allocActive := rfl
@[simp] theorem headerComplete_allocDone : (headerComplete c e).allocDone = e.allocDone := rfl
@[simp] theorem headerComplete_probeOwned : (headerComplete c e).probeOwned = e.probeOwned := rfl
@[simp] theorem headerComplete_physAddr : (headerComplete c e).physAddr = e.physAddr := rfl
@[simp] theorem headerComplete_lastLineState : (headerComplete c e).lastLineState = e.lastLineState := rfl
@[simp] theorem headerComplete_driveLevel : (headerComplete c e).driveLevel = e.driveLevel := rfl
@[simp] theorem headerComplete_lastStateChangeTime : (headerComplete c e).lastStateChangeTime = e.lastStateChangeTime := rfl
@[simp] theorem headerComplete_bitStartTime : (headerComplete c e).bitStartTime = e.bitStartTime := rfl
@[simp] theorem headerComplete_releaseTime : (headerComplete c e).releaseTime = e.releaseTime := rfl
@[simp] theorem headerComplete_state : (headerComplete c e).state = e.state := rfl
@[simp] theorem headerComplete_rxbuf : (headerComplete c e).rxbuf = e.rxbuf := rfl
@[simp] theorem headerComplete_receiveBitCount : (headerComplete c e).receiveBitCount = e.receiveBitCount := rfl
@[simp] theorem headerComplete_rxBitPos : (headerComplete c e).rxBitPos = e.rxBitPos := rfl
@[simp] theorem headerComplete_txbuf : (headerComplete c e).txbuf = e.txbuf := rfl
@[simp] theorem headerComplete_transmitByteCount : (headerComplete c e).transmitByteCount = e.transmitByteCount := rfl
@[simp] theorem headerComplete_transmitBitCursor : (headerComplete c e).transmitBitCursor = e.transmitBitCursor := rfl
@[simp] theorem headerComplete_retryCount : (headerComplete c e).retryCount = e.retryCount := rfl
@[simp] theorem headerComplete_eom : (headerComplete c e).eom = e.eom := rfl
@[simp] theorem headerComplete_ack : (headerComplete c e).ack = e.ack := rfl
@[simp] theorem headerComplete_wasLastTransmitter : (headerComplete c e).wasLastTransmitter = e.wasLastTransmitter := rfl
@[simp] theorem headerComplete_promiscuous : (headerComplete c e).promiscuous = e.promiscuous := rfl
@[simp] theorem headerComplete_monitorMode : (headerComplete c e).monitorMode = e.monitorMode := rfl

end

/-! ### observeAck -/

section

variable (d : Micros) (e : Engine)

@[simp] theorem observeAck_address : (observeAck d e).address = e.address := rfl
@[simp] theorem observeAck_logicalAddressMask : (observeAck d e).logicalAddressMask = e.logicalAddressMask := rfl
@[simp] theorem observeAck_alloc : (observeAck d e).alloc = e.alloc := rfl
@[simp] theorem observeAck_allocCount : (observeAck d e).allocCount = e.allocCount := rfl
@[simp] theorem observeAck_allocIndex : (observeAck d e).allocIndex = e.allocIndex := rfl
@[simp] theorem observeAck_allocActive : (observeAck d e).allocActive = e.allocActive := rfl
@[simp] theorem observeAck_allocDone : (observeAck d e).allocDone = e.allocDone := rfl
@[simp] theorem observeAck_probeOwned : (observeAck d e).probeOwned = e.probeOwned := rfl
@[simp] theorem observeAck_physAddr : (observeAck d e).physAddr = e.physAddr := rfl
@[simp] theorem observeAck_lastLineState : (observeAck d e).lastLineState = e.lastLineState := rfl
@[simp] theorem observeAck_driveLevel : (observeAck d e).driveLevel = e.driveLevel := rfl
@[simp] theorem observeAck_lastStateChangeTime : (observeAck d e).lastStateChangeTime = e.lastStateChangeTime := rfl
@[simp] theorem observeAck_bitStartTime : (observeAck d e).bitStartTime = e.bitStartTime := rfl
@[simp] theorem observeAck_releaseTime : (observeAck d e).releaseTime = e.releaseTime := rfl
@[simp] theorem observeAck_state : (observeAck d e).state = e.state := rfl
@[simp] theorem observeAck_rxbuf : (observeAck d e).rxbuf = e.rxbuf := rfl
@[simp] theorem observeAck_receiveBitCount : (observeAck d e).receiveBitCount = e.receiveBitCount := rfl
@[simp] theorem observeAck_rxBitPos : (observeAck d e).rxBitPos = e.rxBitPos := rfl
@[simp] theorem observeAck_txbuf : (observeAck d e).txbuf = e.txbuf := rfl
@[simp] theorem observeAck_transmitByteCount : (observeAck d e).transmitByteCount = e.transmitByteCount := rfl
@[simp] theorem observeAck_transmitBitCursor : (observeAck d e).transmitBitCursor = e.transmitBitCursor := rfl
@[simp] theorem observeAck_retryCount : (observeAck d e).retryCount = e.retryCount := rfl
@[simp] theorem observeAck_eom : (observeAck d e).eom = e.eom := rfl
@[simp] theorem observeAck_follower : (observeAck d e).follower = e.follower := rfl
@[simp] theorem observeAck_broadcast : (observeAck d e).broadcast = e.broadcast := rfl
@[simp] theorem observeAck_wasLastTransmitter : (observeAck d e).wasLastTransmitter = e.wasLastTransmitter := rfl
@[simp] theorem observeAck_promiscuous : (observeAck d e).promiscuous = e.promiscuous := rfl
@[simp] theorem observeAck_monitorMode : (observeAck d e).monitorMode = e.monitorMode := rfl

end

/-! ### claim -/

section

variable (c : Config) (a : Addr) (e : Engine)

@[simp] theorem claim_address : (claim c a e).address = e.address := rfl
@[simp] theorem claim_allocCount : (claim c a e).allocCount = e.allocCount := rfl
@[simp] theorem claim_allocIndex : (claim c a e).allocIndex = e.allocIndex + 1 := rfl
@[simp] theorem claim_allocActive : (claim c a e).allocActive = e.allocActive := rfl
@[simp] theorem claim_allocDone : (claim c a e).allocDone = e.allocDone := rfl
@[simp] theorem claim_probeOwned : (claim c a e).probeOwned = e.probeOwned := rfl
@[simp] theorem claim_physAddr : (claim c a e).physAddr = e.physAddr := rfl
@[simp] theorem claim_lastLineState : (claim c a e).lastLineState = e.lastLineState := rfl
@[simp] theorem claim_driveLevel : (claim c a e).driveLevel = e.driveLevel := rfl
@[simp] theorem claim_lastStateChangeTime : (claim c a e).lastStateChangeTime = e.lastStateChangeTime := rfl
@[simp] theorem claim_bitStartTime : (claim c a e).bitStartTime = e.bitStartTime := rfl
@[simp] theorem claim_releaseTime : (claim c a e).releaseTime = e.releaseTime := rfl
@[simp] theorem claim_state : (claim c a e).state = e.state := rfl
@[simp] theorem claim_rxbuf : (claim c a e).rxbuf = e.rxbuf := rfl
@[simp] theorem claim_receiveBitCount : (claim c a e).receiveBitCount = e.receiveBitCount := rfl
@[simp] theorem claim_rxBitPos : (claim c a e).rxBitPos = e.rxBitPos := rfl
@[simp] theorem claim_txbuf : (claim c a e).txbuf = e.txbuf := rfl
@[simp] theorem claim_transmitByteCount : (claim c a e).transmitByteCount = e.transmitByteCount := rfl
@[simp] theorem claim_transmitBitCursor : (claim c a e).transmitBitCursor = e.transmitBitCursor := rfl
@[simp] theorem claim_retryCount : (claim c a e).retryCount = e.retryCount := rfl
@[simp] theorem claim_eom : (claim c a e).eom = e.eom := rfl
@[simp] theorem claim_ack : (claim c a e).ack = e.ack := rfl
@[simp] theorem claim_follower : (claim c a e).follower = e.follower := rfl
@[simp] theorem claim_broadcast : (claim c a e).broadcast = e.broadcast := rfl
@[simp] theorem claim_wasLastTransmitter : (claim c a e).wasLastTransmitter = e.wasLastTransmitter := rfl
@[simp] theorem claim_promiscuous : (claim c a e).promiscuous = e.promiscuous := rfl
@[simp] theorem claim_monitorMode : (claim c a e).monitorMode = e.monitorMode := rfl

end

/-! ### finishAllocation -/

section

variable (e : Engine)

@[simp] theorem finishAllocation_address : (finishAllocation e).address = primaryAddress e := rfl
@[simp] theorem finishAllocation_logicalAddressMask : (finishAllocation e).logicalAddressMask = e.logicalAddressMask := rfl
@[simp] theorem finishAllocation_alloc : (finishAllocation e).alloc = e.alloc := rfl
@[simp] theorem finishAllocation_allocCount : (finishAllocation e).allocCount = e.allocCount := rfl
@[simp] theorem finishAllocation_allocIndex : (finishAllocation e).allocIndex = e.allocIndex := rfl
@[simp] theorem finishAllocation_allocActive : (finishAllocation e).allocActive = false := rfl
@[simp] theorem finishAllocation_allocDone : (finishAllocation e).allocDone = true := rfl
@[simp] theorem finishAllocation_probeOwned : (finishAllocation e).probeOwned = e.probeOwned := rfl
@[simp] theorem finishAllocation_physAddr : (finishAllocation e).physAddr = e.physAddr := rfl
@[simp] theorem finishAllocation_lastLineState : (finishAllocation e).lastLineState = e.lastLineState := rfl
@[simp] theorem finishAllocation_driveLevel : (finishAllocation e).driveLevel = e.driveLevel := rfl
@[simp] theorem finishAllocation_lastStateChangeTime : (finishAllocation e).lastStateChangeTime = e.lastStateChangeTime := rfl
@[simp] theorem finishAllocation_bitStartTime : (finishAllocation e).bitStartTime = e.bitStartTime := rfl
@[simp] theorem finishAllocation_releaseTime : (finishAllocation e).releaseTime = e.releaseTime := rfl
@[simp] theorem finishAllocation_state : (finishAllocation e).state = e.state := rfl
@[simp] theorem finishAllocation_rxbuf : (finishAllocation e).rxbuf = e.rxbuf := rfl
@[simp] theorem finishAllocation_receiveBitCount : (finishAllocation e).receiveBitCount = e.receiveBitCount := rfl
@[simp] theorem finishAllocation_rxBitPos : (finishAllocation e).rxBitPos = e.rxBitPos := rfl
@[simp] theorem finishAllocation_txbuf : (finishAllocation e).txbuf = e.txbuf := rfl
@[simp] theorem finishAllocation_transmitByteCount : (finishAllocation e).transmitByteCount = e.transmitByteCount := rfl
@[simp] theorem finishAllocation_transmitBitCursor : (finishAllocation e).transmitBitCursor = e.transmitBitCursor := rfl
@[simp] theorem finishAllocation_retryCount : (finishAllocation e).retryCount = e.retryCount := rfl
@[simp] theorem finishAllocation_eom : (finishAllocation e).eom = e.eom := rfl
@[simp] theorem finishAllocation_ack : (finishAllocation e).ack = e.ack := rfl
@[simp] theorem finishAllocation_follower : (finishAllocation e).follower = e.follower := rfl
@[simp] theorem finishAllocation_broadcast : (finishAllocation e).broadcast = e.broadcast := rfl
@[simp] theorem finishAllocation_wasLastTransmitter : (finishAllocation e).wasLastTransmitter = e.wasLastTransmitter := rfl
@[simp] theorem finishAllocation_promiscuous : (finishAllocation e).promiscuous = e.promiscuous := rfl
@[simp] theorem finishAllocation_monitorMode : (finishAllocation e).monitorMode = e.monitorMode := rfl

end

/-! ### loadProbe -/

section

variable (a : Addr) (e : Engine)

@[simp] theorem loadProbe_address : (loadProbe a e).address = e.address := rfl
@[simp] theorem loadProbe_logicalAddressMask : (loadProbe a e).logicalAddressMask = e.logicalAddressMask := rfl
@[simp] theorem loadProbe_alloc : (loadProbe a e).alloc = e.alloc := rfl
@[simp] theorem loadProbe_allocCount : (loadProbe a e).allocCount = e.allocCount := rfl
@[simp] theorem loadProbe_allocIndex : (loadProbe a e).allocIndex = e.allocIndex := rfl
@[simp] theorem loadProbe_allocActive : (loadProbe a e).allocActive = e.allocActive := rfl
@[simp] theorem loadProbe_allocDone : (loadProbe a e).allocDone = e.allocDone := rfl
@[simp] theorem loadProbe_probeOwned : (loadProbe a e).probeOwned = true := rfl
@[simp] theorem loadProbe_physAddr : (loadProbe a e).physAddr = e.physAddr := rfl
@[simp] theorem loadProbe_lastLineState : (loadProbe a e).lastLineState = e.lastLineState := rfl
@[simp] theorem loadProbe_driveLevel : (loadProbe a e).driveLevel = e.driveLevel := rfl
@[simp] theorem loadProbe_lastStateChangeTime : (loadProbe a e).lastStateChangeTime = e.lastStateChangeTime := rfl
@[simp] theorem loadProbe_bitStartTime : (loadProbe a e).bitStartTime = e.bitStartTime := rfl
@[simp] theorem loadProbe_releaseTime : (loadProbe a e).releaseTime = e.releaseTime := rfl
@[simp] theorem loadProbe_state : (loadProbe a e).state = e.state := rfl
@[simp] theorem loadProbe_rxbuf : (loadProbe a e).rxbuf = e.rxbuf := rfl
@[simp] theorem loadProbe_receiveBitCount : (loadProbe a e).receiveBitCount = e.receiveBitCount := rfl
@[simp] theorem loadProbe_rxBitPos : (loadProbe a e).rxBitPos = e.rxBitPos := rfl
@[simp] theorem loadProbe_txbuf : (loadProbe a e).txbuf = e.txbuf.set 0 (headerByte a a) := rfl
@[simp] theorem loadProbe_transmitByteCount : (loadProbe a e).transmitByteCount = 1 := rfl
@[simp] theorem loadProbe_transmitBitCursor : (loadProbe a e).transmitBitCursor = 0 := rfl
@[simp] theorem loadProbe_retryCount : (loadProbe a e).retryCount = 0 := rfl
@[simp] theorem loadProbe_eom : (loadProbe a e).eom = e.eom := rfl
@[simp] theorem loadProbe_ack : (loadProbe a e).ack = e.ack := rfl
@[simp] theorem loadProbe_follower : (loadProbe a e).follower = e.follower := rfl
@[simp] theorem loadProbe_broadcast : (loadProbe a e).broadcast = e.broadcast := rfl
@[simp] theorem loadProbe_wasLastTransmitter : (loadProbe a e).wasLastTransmitter = e.wasLastTransmitter := rfl
@[simp] theorem loadProbe_promiscuous : (loadProbe a e).promiscuous = e.promiscuous := rfl
@[simp] theorem loadProbe_monitorMode : (loadProbe a e).monitorMode = e.monitorMode := rfl

end

/-! ### enqueued -/

section

variable (src dst : Addr) (payload : List Byte) (e : Engine)

@[simp] theorem enqueued_address : (enqueued src dst payload e).address = e.address := rfl
@[simp] theorem enqueued_logicalAddressMask : (enqueued src dst payload e).logicalAddressMask = e.logicalAddressMask := rfl
@[simp] theorem enqueued_alloc : (enqueued src dst payload e).alloc = e.alloc := rfl
@[simp] theorem enqueued_allocCount : (enqueued src dst payload e).allocCount = e.allocCount := rfl
@[simp] theorem enqueued_allocIndex : (enqueued src dst payload e).allocIndex = e.allocIndex := rfl
@[simp] theorem enqueued_allocActive : (enqueued src dst payload e).allocActive = e.allocActive := rfl
@[simp] theorem enqueued_allocDone : (enqueued src dst payload e).allocDone = e.allocDone := rfl
@[simp] theorem enqueued_probeOwned : (enqueued src dst payload e).probeOwned = false := rfl
@[simp] theorem enqueued_physAddr : (enqueued src dst payload e).physAddr = e.physAddr := rfl
@[simp] theorem enqueued_lastLineState : (enqueued src dst payload e).lastLineState = e.lastLineState := rfl
@[simp] theorem enqueued_driveLevel : (enqueued src dst payload e).driveLevel = e.driveLevel := rfl
@[simp] theorem enqueued_lastStateChangeTime : (enqueued src dst payload e).lastStateChangeTime = e.lastStateChangeTime := rfl
@[simp] theorem enqueued_bitStartTime : (enqueued src dst payload e).bitStartTime = e.bitStartTime := rfl
@[simp] theorem enqueued_releaseTime : (enqueued src dst payload e).releaseTime = e.releaseTime := rfl
@[simp] theorem enqueued_state : (enqueued src dst payload e).state = e.state := rfl
@[simp] theorem enqueued_rxbuf : (enqueued src dst payload e).rxbuf = e.rxbuf := rfl
@[simp] theorem enqueued_receiveBitCount : (enqueued src dst payload e).receiveBitCount = e.receiveBitCount := rfl
@[simp] theorem enqueued_rxBitPos : (enqueued src dst payload e).rxBitPos = e.rxBitPos := rfl
@[simp] theorem enqueued_txbuf : (enqueued src dst payload e).txbuf = writeBytes e.txbuf 0 (headerByte src dst :: payload) := rfl
@[simp] theorem enqueued_transmitByteCount : (enqueued src dst payload e).transmitByteCount = BitVec.ofNat 5 (payload.length + 1) := rfl
@[simp] theorem enqueued_transmitBitCursor : (enqueued src dst payload e).transmitBitCursor = 0 := rfl
@[simp] theorem enqueued_retryCount : (enqueued src dst payload e).retryCount = 0 := rfl
@[simp] theorem enqueued_eom : (enqueued src dst payload e).eom = e.eom := rfl
@[simp] theorem enqueued_ack : (enqueued src dst payload e).ack = e.ack := rfl
@[simp] theorem enqueued_follower : (enqueued src dst payload e).follower = e.follower := rfl
@[simp] theorem enqueued_broadcast : (enqueued src dst payload e).broadcast = e.broadcast := rfl
@[simp] theorem enqueued_wasLastTransmitter : (enqueued src dst payload e).wasLastTransmitter = e.wasLastTransmitter := rfl
@[simp] theorem enqueued_promiscuous : (enqueued src dst payload e).promiscuous = e.promiscuous := rfl
@[simp] theorem enqueued_monitorMode : (enqueued src dst payload e).monitorMode = e.monitorMode := rfl

end

end Sys2Proof.Machine
end

