-- ==== Sys2Proof/Laws/Buffers.lean ====
section
/-! SUPPORT. The frame buffers (spec/41_frame_buffers.md): what a bit write, a byte write and `StoreRxBit` change, and what they leave. -/

namespace Sys2Proof.Machine

open Sys2Proof

/-- Only bit `j` changes. -/
theorem getLsbD_setBit (v : Byte) (j i : Nat) (b : Bool) (hj : j < 8) (hi : i < 8) :
    (setBit v j b).getLsbD i = if i = j then b else v.getLsbD i := by
  unfold setBit
  by_cases h : i = j
  · subst h
    cases b <;> simp [hi]
  · rcases Nat.lt_or_gt_of_ne h with h' | h'
    · cases b <;> simp [h, hi, h']
    · have : i - j ≠ 0 := by omega
      cases b <;> simp [h, hi, this]

@[simp] theorem length_rxbufSet (buf : List Byte) (i j : Nat) (b : Bool) : (rxbufSet buf i j b).length = buf.length := by
  simp [rxbufSet]

theorem getElem?_rxbufSet_of_ne (buf : List Byte) (i j k : Nat) (b : Bool) (h : k ≠ i) : (rxbufSet buf i j b)[k]? = buf[k]? := by
  simp [rxbufSet, Ne.symm h]

theorem byteAt_rxbufSet (buf : List Byte) (i j k : Nat) (b : Bool) (h : i < buf.length) :
    byteAt (rxbufSet buf i j b) k = if k = i then setBit (byteAt buf i) j b else byteAt buf k := by
  simp only [byteAt, rxbufSet, List.getD_eq_getElem?_getD, List.getElem?_set]
  split
  · rename_i hk
    subst hk
    simp [h]
  · rename_i hk
    simp [Ne.symm hk]

@[simp] theorem length_writeBytes (bytes buf : List Byte) (i : Nat) : (writeBytes buf i bytes).length = buf.length := by
  induction bytes generalizing buf i with
  | nil => rfl
  | cons b bs ih => simp [writeBytes, ih]

/-- The written bytes stand from position `i` on, every other byte stays. -/
theorem getElem?_writeBytes (bytes buf : List Byte) (i k : Nat) (hk : k < buf.length) :
    (writeBytes buf i bytes)[k]? = if i ≤ k ∧ k < i + bytes.length then bytes[k - i]? else buf[k]? := by
  induction bytes generalizing buf i with
  | nil => simp [writeBytes]
  | cons b bs ih =>
    rw [writeBytes, ih _ _ (by simpa using hk)]
    by_cases h : k = i
    · subst h
      simp [hk]
    · by_cases h' : i < k
      · have : k - i = (k - (i + 1)) + 1 := by omega
        rw [this]
        simp only [List.length_cons, List.getElem?_cons_succ, List.getElem?_set, Ne.symm h, if_false]
        congr 1
        apply propext
        omega
      · have h1 : ¬ (i + 1 ≤ k ∧ k < i + 1 + bs.length) := by omega
        have h2 : ¬ (i ≤ k ∧ k < i + (b :: bs).length) := by omega
        rw [if_neg h1, if_neg h2, List.getElem?_set_ne (Ne.symm h)]

/-- `StoreRxBit` leaves everything but the receive buffer, its counts, `follower` and `broadcast` (41_frame_buffers.md R146). -/
theorem storeRxBit_frame (c : Config) (b : Bool) (e : Engine) :
    storeRxBit c b e =
      { e with
        rxbuf := (storeRxBit c b e).rxbuf
        receiveBitCount := (storeRxBit c b e).receiveBitCount
        rxBitPos := e.rxBitPos + 1
        follower := (storeRxBit c b e).follower
        broadcast := (storeRxBit c b e).broadcast } := by
  unfold storeRxBit
  dsimp only
  split
  · split <;> rfl
  · rfl

theorem storeRxBit_rxbuf (c : Config) (b : Bool) (e : Engine) :
    (storeRxBit c b e).rxbuf =
      if e.receiveBitCount.toNat < c.rxCap * 8 then rxbufSet e.rxbuf (e.receiveBitCount.toNat / 8) (7 - e.receiveBitCount.toNat % 8) b
      else e.rxbuf := by
  unfold storeRxBit
  dsimp only
  split
  · split <;> rfl
  · rfl

theorem storeRxBit_receiveBitCount (c : Config) (b : Bool) (e : Engine) :
    (storeRxBit c b e).receiveBitCount =
      if e.receiveBitCount.toNat < c.rxCap * 8 then e.receiveBitCount + 1 else e.receiveBitCount := by
  unfold storeRxBit
  dsimp only
  split
  · split <;> rfl
  · rfl

/-- The bit count stays within the buffer (10_state.md R33, R48 item 1). -/
theorem storeRxBit_receiveBitCount_le (c : Config) (b : Bool) (e : Engine)
    (h : e.receiveBitCount.toNat ≤ c.rxCap * 8) : (storeRxBit c b e).receiveBitCount.toNat ≤ c.rxCap * 8 := by
  rw [storeRxBit_receiveBitCount]
  split
  · rw [BitVec.toNat_add]
    simp
    omega
  · exact h

end Sys2Proof.Machine
end

