-- ==== Sys2Proof/Laws/Decode.lean ====
section
/-! SUPPORT. The fields of a command word as numbers, the decoder by opcode, and the byte stream of the command port. -/

namespace Sys2Proof

theorem bits_toNat (w : Word) (lo len : Nat) : (bits w lo len).toNat = w.toNat / 2 ^ lo % 2 ^ len := by
  rw [bits, BitVec.extractLsb'_toNat, Nat.shiftRight_eq_div_pow]

theorem bits_eq_iff (w : Word) (lo len : Nat) (v : BitVec len) : bits w lo len = v ↔ w.toNat / 2 ^ lo % 2 ^ len = v.toNat := by
  rw [BitVec.toNat_eq, bits_toNat]

theorem bit_eq (w : Word) (i : Nat) : bit w i = decide (w.toNat / 2 ^ i % 2 = 1) := by
  rw [bit, BitVec.getLsbD, Nat.testBit_eq_decide_div_mod_eq]

theorem opcode_toNat (w : Word) : (opcode w).toNat = w.toNat / 2 ^ 28 := by
  have := w.isLt
  rw [opcode, bits_toNat]
  omega

theorem payloadLength_eq (w : Word) : payloadLength w = if w.toNat / 2 ^ 28 = 3 then w.toNat / 2 ^ 8 % 2 ^ 5 else 0 := by
  rw [← opcode_toNat, ← bits_toNat]
  simp only [payloadLength, BitVec.toNat_eq]
  rfl

theorem encodingError_configure (maxTypes : Nat) (w : Word) (h : (opcode w).toNat = 1) :
    encodingError maxTypes w =
      if bits w 23 5 ≠ 0 ∨ bits w 6 2 ≠ 0 then some .reservedBits
      else if configureOk maxTypes (bits w 8 3) (bits w 11 3) (bits w 14 3) (bits w 17 3) (bits w 20 3) then none
      else some .deviceTypes := by
  unfold encodingError
  rw [h]
  rfl

theorem encodingError_setPhys (maxTypes : Nat) (w : Word) (h : (opcode w).toNat = 2) :
    encodingError maxTypes w = if bits w 16 12 ≠ 0 then some .reservedBits else none := by
  unfold encodingError
  rw [h]
  rfl

theorem encodingError_txEnqueue (maxTypes : Nat) (w : Word) (h : (opcode w).toNat = 3) :
    encodingError maxTypes w =
      if bits w 14 14 ≠ 0 then some .reservedBits else if txEnqueueOk (bit w 13) (bits w 4 4) then none else some .source := by
  unfold encodingError
  rw [h]
  rfl

theorem encodingError_dispatch (maxTypes : Nat) (w : Word) (h : (opcode w).toNat = 4) :
    encodingError maxTypes w = if bits w 1 27 ≠ 0 then some .reservedBits else none := by
  unfold encodingError
  rw [h]
  rfl

theorem encodingError_readStatus (maxTypes : Nat) (w : Word) (h : (opcode w).toNat = 5) :
    encodingError maxTypes w = if bits w 1 27 ≠ 0 then some .reservedBits else none := by
  unfold encodingError
  rw [h]
  rfl

theorem commandOf_configure (w : Word) (payload : List Byte) (h : (opcode w).toNat = 1) :
    commandOf w payload =
      .configure (bits w 0 4) (bit w 4) (bit w 5) (bits w 8 3) (bits w 11 3) (bits w 14 3) (bits w 17 3) (bits w 20 3) := by
  unfold commandOf
  rw [h]
  rfl

theorem commandOf_setPhys (w : Word) (payload : List Byte) (h : (opcode w).toNat = 2) :
    commandOf w payload = .setPhys (bits w 0 16) := by
  unfold commandOf
  rw [h]
  rfl

theorem commandOf_txEnqueue (w : Word) (payload : List Byte) (h : (opcode w).toNat = 3) :
    commandOf w payload = .txEnqueue (bit w 13) (bits w 4 4) (bits w 0 4) payload := by
  unfold commandOf
  rw [h]
  rfl

theorem commandOf_dispatch (w : Word) (payload : List Byte) (h : (opcode w).toNat = 4) :
    commandOf w payload = .dispatch (bit w 0) := by
  unfold commandOf
  rw [h]
  rfl

theorem commandOf_readStatus (w : Word) (payload : List Byte) (h : (opcode w).toNat = 5) :
    commandOf w payload = .readStatus (bit w 0) := by
  unfold commandOf
  rw [h]
  rfl

theorem wordOfBytes_bits (w : Word) : wordOfBytes (bits w 0 8) (bits w 8 8) (bits w 16 8) (bits w 24 8) = w := by
  apply BitVec.eq_of_toNat_eq
  have := w.isLt
  rw [wordOfBytes, BitVec.toNat_ofNat]
  simp only [bits_toNat]
  omega

theorem bytesOfWord_wordOfBytes (b0 b1 b2 b3 : Byte) : bytesOfWord (wordOfBytes b0 b1 b2 b3) = [b0, b1, b2, b3] := by
  have h0 := b0.isLt
  have h1 := b1.isLt
  have h2 := b2.isLt
  have h3 := b3.isLt
  have : (wordOfBytes b0 b1 b2 b3).toNat = b0.toNat + b1.toNat * 2 ^ 8 + b2.toNat * 2 ^ 16 + b3.toNat * 2 ^ 24 := by
    rw [wordOfBytes, BitVec.toNat_ofNat]
    omega
  simp only [bytesOfWord, List.cons.injEq, bits_eq_iff, this, and_true]
  refine ⟨?_, ?_, ?_, ?_⟩ <;> omega

/-- The bytes of a word and what follows it (30_encoding.md R99: the length of the whole command from the word alone). -/
theorem decodeBytes_bytesOfWord (maxTypes : Nat) (w : Word) (bytes : List Byte) :
    decodeBytes maxTypes (bytesOfWord w ++ bytes) =
      if bytes.length < payloadLength w then .error .incomplete
      else .ok (decodeCommand maxTypes w (bytes.take (payloadLength w)), bytes.drop (payloadLength w)) := by
  simp only [bytesOfWord, List.cons_append, List.nil_append, decodeBytes, wordOfBytes_bits]

end Sys2Proof
end

