-- ==== Sys2Proof/Laws/Dispatch.lean ====
section
/-! SUPPORT. What a dispatch, a command and a step can do: the handler of each state, the selection by the code, and the inversions of
exec and step. -/

namespace Sys2Proof.Machine

open Sys2Proof

/-- A code names a state exactly when it is that state's code (10_state.md R31). -/
theorem linkStateOf_eq_some_iff (code : StateCode) (S : LinkState) : linkStateOf code = some S ↔ code = S.code := by
  constructor
  · intro h
    revert h
    cases S <;> revert code <;> decide
  · rintro rfl
    cases S <;> rfl

@[simp] theorem linkStateOf_code (S : LinkState) : linkStateOf S.code = some S := (linkStateOf_eq_some_iff _ _).mpr rfl

theorem isLegal_code (S : LinkState) : isLegal S.code := by cases S <;> decide

/-- The codes that name no state are the reserved ones (10_state.md R54). -/
theorem linkStateOf_eq_none_iff (code : StateCode) : linkStateOf code = none ↔ ¬ isLegal code := by
  revert code
  decide

theorem exists_code_of_isLegal {code : StateCode} (h : isLegal code) : ∃ S : LinkState, code = S.code := by
  cases hS : linkStateOf code with
  | none => exact absurd h ((linkStateOf_eq_none_iff code).mp hS)
  | some S => exact ⟨S, (linkStateOf_eq_some_iff code S).mp hS⟩

/-- The handler rule of a state (30_encoding.md R95). -/
def handlerFor : LinkState → Config → Inputs → Engine → Reply
  | .idle => handleIdle
  | .rcvStartBit1 => handleRcvStartBit1
  | .rcvStartBit2 => handleRcvStartBit2
  | .rcvData1 => handleRcvData1
  | .rcvData2 => handleRcvData2
  | .rcvEom1 => handleRcvEom1
  | .rcvEom2 => handleRcvEom2
  | .rcvAck1 => handleRcvAck1
  | .rcvAck2 => handleRcvAck2
  | .rcvAckSent => handleRcvAckSent
  | .rcvLineError => handleRcvLineError
  | .xmitWait => handleXmitWait
  | .xmitStartBit1 => handleXmitStartBit1
  | .xmitStartBit2 => handleXmitStartBit2
  | .xmitData1 => handleXmitData1
  | .xmitData2 => handleXmitData2
  | .xmitEom1 => handleXmitEom1
  | .xmitEom2 => handleXmitEom2
  | .xmitAck1 => handleXmitAck1
  | .xmitAckTest => handleXmitAckTest
  | .xmitAckWait => handleXmitAckWait
  | .xmitAck2 => handleXmitAck2

theorem execHandlerOf_code (S : LinkState) (s : State) : execHandlerOf S.code s = .next (runHandler (handlerFor S) s) := by
  cases S <;> rfl

theorem exec_dispatch_code (S : LinkState) (hint : Bool) (s : State) (h : s.engine.state = S.code) :
    exec (.dispatch hint) s = .next (runHandler (handlerFor S) s) := by
  show execHandlerOf s.engine.state s = _
  rw [h, execHandlerOf_code]

theorem exec_dispatch_reserved (hint : Bool) (s : State) (h : ¬ isLegal s.engine.state) :
    exec (.dispatch hint) s = .fault .reservedState := by
  show execHandlerOf s.engine.state s = _
  unfold execHandlerOf
  rw [(linkStateOf_eq_none_iff _).mpr h]
  rfl

/-- A handler row is the dispatch with that handler, whatever the state register holds. -/
theorem exec_handlerInstr (S : LinkState) (s : State) : exec (handlerInstr S) s = .next (runHandler (handlerFor S) s) := by
  cases S <;> rfl

/-- A dispatch runs the handler of a legal state, or faults. -/
theorem exec_dispatch_cases (hint : Bool) (s : State) :
    (∃ S : LinkState, s.engine.state = S.code ∧ exec (.dispatch hint) s = .next (runHandler (handlerFor S) s)) ∨
      (¬ isLegal s.engine.state ∧ exec (.dispatch hint) s = .fault .reservedState) := by
  by_cases h : isLegal s.engine.state
  · obtain ⟨S, hS⟩ := exists_code_of_isLegal h
    exact .inl ⟨S, hS, exec_dispatch_code S hint s hS⟩
  · exact .inr ⟨h, exec_dispatch_reserved hint s h⟩

/-- What a decoded command is: never a handler row. -/
theorem decodeCommand_isCommand (maxTypes : Nat) (w : Word) (payload : List Byte) :
    (decodeCommand maxTypes w payload).isCommand = true := by
  unfold decodeCommand commandOf
  split
  · rfl
  · split <;> rfl

theorem isCommand_of_decodeBytes {maxTypes : Nat} {bytes rest : List Byte} {i : Instr}
    (h : decodeBytes maxTypes bytes = .ok (i, rest)) : i.isCommand = true := by
  unfold decodeBytes at h
  split at h
  · dsimp only at h
    split at h
    · cases h
    · cases h
      exact decodeCommand_isCommand ..
  · cases h

/-- A step does nothing for want of a whole command, or runs one command. -/
theorem step_cases (s : State) :
    (∃ err, decodeBytes s.cfg.maxDeviceTypes s.ports.command = .error err ∧ step s = .next s) ∨
      ∃ i rest, decodeBytes s.cfg.maxDeviceTypes s.ports.command = .ok (i, rest) ∧ i.isCommand = true ∧
        step s = exec i (s.withCommandBytes rest) := by
  unfold step
  cases h : decodeBytes s.cfg.maxDeviceTypes s.ports.command with
  | error err => exact .inl ⟨err, rfl, rfl⟩
  | ok r => exact .inr ⟨r.1, r.2, rfl, isCommand_of_decodeBytes h, rfl⟩

end Sys2Proof.Machine
end

