-- ==== Sys2Proof/Laws/Handlers.lean ====
section
/-! SUPPORT. What no handler writes: the sampled level and the time of the last edge (46_host_interface.md R283 writes them before the
handler runs), the physical address, the number of records and the two toggles. -/

namespace Sys2Proof.Machine

open Sys2Proof

/-- The fields no handler writes. -/
structure Untouched (e e' : Engine) : Prop where
  lastLineState : e'.lastLineState = e.lastLineState
  lastStateChangeTime : e'.lastStateChangeTime = e.lastStateChangeTime
  physAddr : e'.physAddr = e.physAddr
  allocCount : e'.allocCount = e.allocCount
  promiscuous : e'.promiscuous = e.promiscuous
  monitorMode : e'.monitorMode = e.monitorMode

theorem Untouched.refl (e : Engine) : Untouched e e := ⟨rfl, rfl, rfl, rfl, rfl, rfl⟩

theorem Untouched.trans {e e' e'' : Engine} (h : Untouched e e') (h' : Untouched e' e'') : Untouched e e'' :=
  ⟨h'.1.trans h.1, h'.2.trans h.2, h'.3.trans h.3, h'.4.trans h.4, h'.5.trans h.5, h'.6.trans h.6⟩

theorem SameOutsideAllocation.untouched {e e' : Engine} (h : SameOutsideAllocation e e') : Untouched e e' := by
  have := h.eq
  rw [this]
  exact ⟨rfl, rfl, rfl, rfl, rfl, rfl⟩

theorem returnToIdle_untouched (e : Engine) (events : List Event) : Untouched e (returnToIdle e events).engine :=
  ⟨rfl, rfl, rfl, rfl, rfl, rfl⟩

theorem storeRxBit_untouched (c : Config) (b : Bool) (e : Engine) : Untouched e (storeRxBit c b e) := by
  rw [storeRxBit_frame]
  exact ⟨rfl, rfl, rfl, rfl, rfl, rfl⟩

theorem finishTransmit_untouched (c : Config) (ok : Bool) (e : Engine) : Untouched e (finishTransmit c ok e).engine := by
  rcases finishTransmit_cases c ok e with ⟨_, h, _⟩ | ⟨_, n, e₁, e₂, h1, rfl, h, _⟩
  · rw [h]
    exact ⟨rfl, rfl, rfl, rfl, rfl, rfl⟩
  · rw [h]
    have h2 := h1.untouched.trans (probeLoop_same c n e₁).untouched
    exact ⟨h2.1, h2.2, h2.3, h2.4, h2.5, h2.6⟩

theorem transmitFailed_untouched (c : Config) (e : Engine) : Untouched e (transmitFailed c e).engine := by
  rcases transmitFailed_cases c e with ⟨h, _⟩ | ⟨h, _⟩
  · rw [h]
    have h2 := finishTransmit_untouched c false { e with driveLevel := true }
    exact ⟨h2.1, h2.2, h2.3, h2.4, h2.5, h2.6⟩
  · rw [h]
    exact ⟨rfl, rfl, rfl, rfl, rfl, rfl⟩

theorem collisionAbort_untouched (c : Config) (e : Engine) : Untouched e (collisionAbort c e).engine := by
  have h := transmitFailed_untouched c (driveLine true e)
  exact ⟨h.1, h.2, h.3, h.4, h.5, h.6⟩

theorem transmitSucceeded_untouched (c : Config) (e : Engine) : Untouched e (transmitSucceeded c e).engine := by
  have h := finishTransmit_untouched c true { e with wasLastTransmitter := true }
  exact ⟨h.1, h.2, h.3, h.4, h.5, h.6⟩

theorem enterLineError_untouched (c : Config) (x : Inputs) (e : Engine) : Untouched e (enterLineError c x e).engine := by
  unfold enterLineError
  split <;> exact ⟨rfl, rfl, rfl, rfl, rfl, rfl⟩

theorem awaitFall_untouched (c : Config) (x : Inputs) (e : Engine) : Untouched e (awaitFall c x e).engine := by
  unfold awaitFall
  split <;> exact ⟨rfl, rfl, rfl, rfl, rfl, rfl⟩

theorem handleIdle_untouched (c : Config) (x : Inputs) (e : Engine) : Untouched e (handleIdle c x e).engine := by
  unfold handleIdle
  split
  · exact ⟨rfl, rfl, rfl, rfl, rfl, rfl⟩
  · split <;> exact ⟨rfl, rfl, rfl, rfl, rfl, rfl⟩

theorem handleRcvStartBit1_untouched (c : Config) (x : Inputs) (e : Engine) : Untouched e (handleRcvStartBit1 c x e).engine := by
  unfold handleRcvStartBit1
  split
  · split <;> exact ⟨rfl, rfl, rfl, rfl, rfl, rfl⟩
  · exact .refl e

theorem handleRcvStartBit2_untouched (c : Config) (x : Inputs) (e : Engine) : Untouched e (handleRcvStartBit2 c x e).engine := by
  unfold handleRcvStartBit2
  split
  · split <;> exact ⟨rfl, rfl, rfl, rfl, rfl, rfl⟩
  · exact awaitFall_untouched c x e

theorem handleRcvData1_untouched (c : Config) (x : Inputs) (e : Engine) : Untouched e (handleRcvData1 c x e).engine := by
  unfold handleRcvData1
  split
  · have h := storeRxBit_untouched c (decodedBit (elapsed x e)) (clearAckIfOutOfRange (elapsed x e) e)
    exact ⟨h.1, h.2, h.3, h.4, h.5, h.6⟩
  · exact .refl e

theorem handleRcvData2_untouched (c : Config) (x : Inputs) (e : Engine) : Untouched e (handleRcvData2 c x e).engine := by
  unfold handleRcvData2
  split
  · split
    · exact ⟨rfl, rfl, rfl, rfl, rfl, rfl⟩
    · exact enterLineError_untouched c x e
  · exact awaitFall_untouched c x e

theorem handleRcvEom1_untouched (c : Config) (x : Inputs) (e : Engine) : Untouched e (handleRcvEom1 c x e).engine := by
  unfold handleRcvEom1
  split <;> exact ⟨rfl, rfl, rfl, rfl, rfl, rfl⟩

theorem handleRcvEom2_untouched (c : Config) (x : Inputs) (e : Engine) : Untouched e (handleRcvEom2 c x e).engine := by
  unfold handleRcvEom2
  split
  · split
    · split <;> exact ⟨rfl, rfl, rfl, rfl, rfl, rfl⟩
    · exact enterLineError_untouched c x e
  · exact awaitFall_untouched c x e

theorem handleRcvAckSent_untouched (c : Config) (x : Inputs) (e : Engine) : Untouched e (handleRcvAckSent c x e).engine := by
  unfold handleRcvAckSent
  split
  · dsimp only
    split <;> exact ⟨rfl, rfl, rfl, rfl, rfl, rfl⟩
  · exact .refl e

theorem handleRcvAck1_untouched (c : Config) (x : Inputs) (e : Engine) : Untouched e (handleRcvAck1 c x e).engine := by
  unfold handleRcvAck1
  split
  · dsimp only
    split
    · exact ⟨rfl, rfl, rfl, rfl, rfl, rfl⟩
    · split <;> exact ⟨rfl, rfl, rfl, rfl, rfl, rfl⟩
  · exact .refl e

theorem handleRcvAck2_untouched (c : Config) (x : Inputs) (e : Engine) : Untouched e (handleRcvAck2 c x e).engine := by
  unfold handleRcvAck2
  split
  · split
    · exact ⟨rfl, rfl, rfl, rfl, rfl, rfl⟩
    · exact enterLineError_untouched c x e
  · exact awaitFall_untouched c x e

theorem handleRcvLineError_untouched (c : Config) (x : Inputs) (e : Engine) : Untouched e (handleRcvLineError c x e).engine := by
  unfold handleRcvLineError
  split <;> exact ⟨rfl, rfl, rfl, rfl, rfl, rfl⟩

theorem handleXmitWait_untouched (c : Config) (x : Inputs) (e : Engine) : Untouched e (handleXmitWait c x e).engine := by
  unfold handleXmitWait
  split
  · exact ⟨rfl, rfl, rfl, rfl, rfl, rfl⟩
  · split
    · exact ⟨rfl, rfl, rfl, rfl, rfl, rfl⟩
    · split <;> exact ⟨rfl, rfl, rfl, rfl, rfl, rfl⟩

theorem handleXmitStartBit1_untouched (c : Config) (x : Inputs) (e : Engine) : Untouched e (handleXmitStartBit1 c x e).engine := by
  unfold handleXmitStartBit1
  split
  · exact collisionAbort_untouched c e
  · split <;> exact ⟨rfl, rfl, rfl, rfl, rfl, rfl⟩

theorem handleXmitStartBit2_untouched (c : Config) (x : Inputs) (e : Engine) : Untouched e (handleXmitStartBit2 c x e).engine := by
  unfold handleXmitStartBit2
  split
  · exact collisionAbort_untouched c e
  · split <;> exact ⟨rfl, rfl, rfl, rfl, rfl, rfl⟩

theorem handleXmitData1_untouched (c : Config) (x : Inputs) (e : Engine) : Untouched e (handleXmitData1 c x e).engine := by
  unfold handleXmitData1
  split
  · exact collisionAbort_untouched c e
  · split <;> exact ⟨rfl, rfl, rfl, rfl, rfl, rfl⟩

theorem handleXmitData2_untouched (c : Config) (x : Inputs) (e : Engine) : Untouched e (handleXmitData2 c x e).engine := by
  unfold handleXmitData2
  split
  · exact collisionAbort_untouched c e
  · split
    · dsimp only
      split <;> exact ⟨rfl, rfl, rfl, rfl, rfl, rfl⟩
    · exact .refl e

theorem handleXmitEom1_untouched (c : Config) (x : Inputs) (e : Engine) : Untouched e (handleXmitEom1 c x e).engine := by
  unfold handleXmitEom1
  split
  · exact collisionAbort_untouched c e
  · split <;> exact ⟨rfl, rfl, rfl, rfl, rfl, rfl⟩

theorem handleXmitEom2_untouched (c : Config) (x : Inputs) (e : Engine) : Untouched e (handleXmitEom2 c x e).engine := by
  unfold handleXmitEom2
  split
  · exact collisionAbort_untouched c e
  · split <;> exact ⟨rfl, rfl, rfl, rfl, rfl, rfl⟩

theorem handleXmitAck1_untouched (c : Config) (x : Inputs) (e : Engine) : Untouched e (handleXmitAck1 c x e).engine := by
  unfold handleXmitAck1
  split
  · exact collisionAbort_untouched c e
  · split <;> exact ⟨rfl, rfl, rfl, rfl, rfl, rfl⟩

theorem handleXmitAckTest_untouched (c : Config) (x : Inputs) (e : Engine) : Untouched e (handleXmitAckTest c x e).engine := by
  unfold handleXmitAckTest
  split
  · exact .refl e
  · split
    · exact transmitFailed_untouched c e
    · split
      · exact transmitSucceeded_untouched c e
      · split <;> exact ⟨rfl, rfl, rfl, rfl, rfl, rfl⟩

theorem handleXmitAckWait_untouched (c : Config) (x : Inputs) (e : Engine) : Untouched e (handleXmitAckWait c x e).engine := by
  unfold handleXmitAckWait
  split
  · exact ⟨rfl, rfl, rfl, rfl, rfl, rfl⟩
  · split
    · exact collisionAbort_untouched c e
    · exact .refl e

theorem handleXmitAck2_untouched (c : Config) (x : Inputs) (e : Engine) : Untouched e (handleXmitAck2 c x e).engine := by
  unfold handleXmitAck2
  split
  · exact collisionAbort_untouched c e
  · split <;> exact ⟨rfl, rfl, rfl, rfl, rfl, rfl⟩

theorem handlerFor_untouched (S : LinkState) (c : Config) (x : Inputs) (e : Engine) : Untouched e (handlerFor S c x e).engine := by
  cases S
  exacts [handleIdle_untouched c x e, handleRcvStartBit1_untouched c x e, handleRcvStartBit2_untouched c x e,
    handleRcvData1_untouched c x e, handleRcvData2_untouched c x e, handleRcvEom1_untouched c x e, handleRcvEom2_untouched c x e,
    handleRcvAck1_untouched c x e, handleRcvAck2_untouched c x e, handleRcvAckSent_untouched c x e,
    handleRcvLineError_untouched c x e, handleXmitWait_untouched c x e, handleXmitStartBit1_untouched c x e,
    handleXmitStartBit2_untouched c x e, handleXmitData1_untouched c x e, handleXmitData2_untouched c x e,
    handleXmitEom1_untouched c x e, handleXmitEom2_untouched c x e, handleXmitAck1_untouched c x e,
    handleXmitAckTest_untouched c x e, handleXmitAckWait_untouched c x e, handleXmitAck2_untouched c x e]

end Sys2Proof.Machine
end

