-- ==== Sys2Proof/Laws/Ops.lean ====
section
/-! SUPPORT. The operations the handlers share, in the terms of Safety.lean: a whole dispatch, the sampled ports, the line error and the
stall. -/

namespace Sys2Proof.Machine

open Sys2Proof

/-- A dispatch is its handler on the sampled inputs and the engine after the sampling (46_host_interface.md R283). -/
theorem runHandler_eq (h : Config → Inputs → Engine → Reply) (s : State) :
    runHandler h s = dispatchedReply s (h s.cfg s.inputs s.observed) := rfl

/-- The first coming reading is taken; with none coming the ports stay (notes/assumptions/4.md). -/
theorem samplePorts_eq (p : Ports) :
    samplePorts p =
      { p with
        line := (p.upcoming.headD ⟨p.line, p.clock⟩).line
        clock := (p.upcoming.headD ⟨p.line, p.clock⟩).now
        upcoming := p.upcoming.tail } := by
  unfold samplePorts
  cases h : p.upcoming with
  | nil =>
    cases p
    simp_all
  | cons r rest => rfl

@[simp] theorem samplePorts_command (p : Ports) : (samplePorts p).command = p.command := by rw [samplePorts_eq]
@[simp] theorem samplePorts_drive (p : Ports) : (samplePorts p).drive = p.drive := by rw [samplePorts_eq]

@[simp] theorem since_observed_bitStartTime (s : State) : since s.inputs.now s.observed.bitStartTime = s.elapsed := rfl
@[simp] theorem since_observed_releaseTime (s : State) : since s.inputs.now s.observed.releaseTime = s.sinceRelease := rfl

/-- `EnterLineError()` (42_receive.md R185). -/
theorem dispatchedReply_enterLineError (s : State) :
    dispatchedReply s (enterLineError s.cfg s.inputs s.observed) = lineErrorOutcome s := by
  have h : s.observed.monitorMode = s.engine.monitorMode := rfl
  simp only [enterLineError, lineErrorOutcome, returnToIdle_eq, h]
  split <;> rfl

/-- No falling edge where one is awaited (42_receive.md R183). -/
theorem dispatchedReply_awaitFall (s : State) : dispatchedReply s (awaitFall s.cfg s.inputs s.observed) = stallOutcome s := by
  unfold awaitFall stallOutcome stallWait
  simp only [BitVec.le_def, elapsed_toNat, since_observed_bitStartTime, remaining_eq, returnToIdle_eq]
  split <;> rfl

end Sys2Proof.Machine
end

