-- ==== Sys2Proof/Laws/PerInstr.lean ====
section
/-! SUPPORT. Statements about every instruction as syntax, one lemma per constructor of Instr (LAWS.json). -/

namespace Sys2Proof.Laws.EncodingShape

open Sys2Proof

/-- A well-formed command is encoded by a word with the payload length the word tells (30_encoding.md R99, R107), a handler row by a
state code and no word (R95). -/
def Statement (i : Instr) : Prop :=
  ∀ maxTypes, i.wf maxTypes = true →
    match encode i with
    | .command w payload => i.isCommand = true ∧ payload.length = payloadLength w
    | .state _ => i.isCommand = false

theorem toNat_le_one (b : Bool) : b.toNat ≤ 1 := by cases b <;> decide

theorem configure (laddr : Addr) (prom mon : Bool) (ntypes : BitVec 3) (t0 t1 t2 t3 : DevType) :
    Statement (.configure laddr prom mon ntypes t0 t1 t2 t3) := by
  intro maxTypes _
  refine ⟨rfl, ?_⟩
  have := laddr.isLt
  have := ntypes.isLt
  have := t0.isLt
  have := t1.isLt
  have := t2.isLt
  have := t3.isLt
  have := toNat_le_one prom
  have := toNat_le_one mon
  rw [payloadLength_eq, BitVec.toNat_ofNat, if_neg (by omega)]
  rfl

theorem setPhys (phys : BitVec 16) : Statement (.setPhys phys) := by
  intro maxTypes _
  refine ⟨rfl, ?_⟩
  have := phys.isLt
  rw [payloadLength_eq, BitVec.toNat_ofNat, if_neg (by omega)]
  rfl

theorem txEnqueue (srcSelf : Bool) (src dst : Addr) (payload : List Byte) : Statement (.txEnqueue srcSelf src dst payload) := by
  intro maxTypes h
  simp only [Instr.wf, Bool.and_eq_true, decide_eq_true_eq] at h
  refine ⟨rfl, ?_⟩
  have := src.isLt
  have := dst.isLt
  have := toNat_le_one srcSelf
  rw [payloadLength_eq, BitVec.toNat_ofNat, if_pos (by omega)]
  omega

theorem dispatch (hint : Bool) : Statement (.dispatch hint) := by
  intro maxTypes _
  exact ⟨rfl, by cases hint <;> rfl⟩

theorem readStatus (sel : Bool) : Statement (.readStatus sel) := by
  intro maxTypes _
  exact ⟨rfl, by cases sel <;> rfl⟩

theorem reservedOpcode (word : Word) (payload : List Byte) : Statement (.reservedOpcode word payload) := by
  intro maxTypes h
  simp only [Instr.wf, Bool.and_eq_true, beq_iff_eq] at h
  exact ⟨rfl, h.2⟩

theorem stIdle : Statement .stIdle := fun _ _ => rfl

theorem stRcvStartBit1 : Statement .stRcvStartBit1 := fun _ _ => rfl

theorem stRcvStartBit2 : Statement .stRcvStartBit2 := fun _ _ => rfl

theorem stRcvData1 : Statement .stRcvData1 := fun _ _ => rfl

theorem stRcvData2 : Statement .stRcvData2 := fun _ _ => rfl

theorem stRcvEom1 : Statement .stRcvEom1 := fun _ _ => rfl

theorem stRcvEom2 : Statement .stRcvEom2 := fun _ _ => rfl

theorem stRcvAck1 : Statement .stRcvAck1 := fun _ _ => rfl

theorem stRcvAck2 : Statement .stRcvAck2 := fun _ _ => rfl

theorem stRcvAckSent : Statement .stRcvAckSent := fun _ _ => rfl

theorem stRcvLineError : Statement .stRcvLineError := fun _ _ => rfl

theorem stXmitWait : Statement .stXmitWait := fun _ _ => rfl

theorem stXmitStartBit1 : Statement .stXmitStartBit1 := fun _ _ => rfl

theorem stXmitStartBit2 : Statement .stXmitStartBit2 := fun _ _ => rfl

theorem stXmitData1 : Statement .stXmitData1 := fun _ _ => rfl

theorem stXmitData2 : Statement .stXmitData2 := fun _ _ => rfl

theorem stXmitEom1 : Statement .stXmitEom1 := fun _ _ => rfl

theorem stXmitEom2 : Statement .stXmitEom2 := fun _ _ => rfl

theorem stXmitAck1 : Statement .stXmitAck1 := fun _ _ => rfl

theorem stXmitAckTest : Statement .stXmitAckTest := fun _ _ => rfl

theorem stXmitAckWait : Statement .stXmitAckWait := fun _ _ => rfl

theorem stXmitAck2 : Statement .stXmitAck2 := fun _ _ => rfl

theorem stReserved (code : StateCode) : Statement (.stReserved code) := fun _ _ => rfl

end Sys2Proof.Laws.EncodingShape
end

