-- ==== Sys2Proof/Tests/Slice0.lean ====
section
/-! SUPPORT. Tests of the model against the spec's own words and vectors (the id of spec/95_test_vectors.md stands at each), the smoke
tests of WellFormed, and a named witness for the hypotheses of every statement that has some. -/

namespace Sys2Proof.Tests

open Sys2Proof Sys2Proof.Machine

/-! ### Small states and what a test looks at -/

/-- The engine after reset. -/
abbrev fresh : Engine := Engine.reset Config.default

/-- The machine with a given engine, whose next dispatch samples the given level and clock. -/
def seen (e : Engine) (line : Bool) (now : Nat) : State :=
  { State.reset with engine := e, ports := { State.reset.ports with line := line, clock := micros now } }

/-- An engine in a receive state, timed from `start`, that last saw the line at `level`. -/
def receiving (code : StateCode) (start : Nat) (level : Bool) : Engine :=
  { fresh with state := code, bitStartTime := micros start, lastLineState := level, ack := true }

/-- An engine that sends the frame 0x40 0x36, in a transmit state, timed from `start`, that last saw the line at `level`. -/
def sending (code : StateCode) (start cursor : Nat) (drive level : Bool) : Engine :=
  { fresh with
    state := code, bitStartTime := micros start, lastLineState := level, driveLevel := drive,
    txbuf := 0x40 :: 0x36 :: List.replicate 14 0, transmitByteCount := 2, transmitBitCursor := BitVec.ofNat 8 cursor }

/-- The state a meaning leaves, where it leaves one. -/
def outcome (i : Instr) (s : State) : Option State :=
  match exec i s with
  | .next t => some t
  | .fault _ => none
  | .refused _ => none

/-- What a dispatch leaves, in short. -/
structure Brief where
  state : StateCode
  drive : Bool
  bitStart : Nat
  wait : Nat
  events : List Event
deriving DecidableEq, Repr

def brief (i : Instr) (s : State) : Option Brief :=
  (outcome i s).map fun t =>
    ⟨t.engine.state, t.engine.driveLevel, t.engine.bitStartTime.toNat, ((t.response.bind (·.wait)).getD 0).toNat, t.events⟩

/-- `WAIT_EDGE` = 2^64 - 1 (10_state.md R47). -/
abbrev edge : Nat := 18446744073709551615

/-! ### WellFormed refuses an ill-formed term for each of its checks -/

theorem test_wf_configure : (Instr.configure 15 false false 1 4 0 0 0).wf 4 = true := by decide

/-- NTYPES = 5 > MAX_DEVICE_TYPES (V-E6) -/
theorem test_wf_refuses_too_many_types : (Instr.configure 0 false false 5 0 0 0 0).wf 4 = false := by decide

/-- NTYPES = 0 with T0 = 4 (V-E7), and the other unused type fields -/
theorem test_wf_refuses_unused_types :
    (Instr.configure 0 false false 0 4 0 0 0).wf 4 = false ∧ (Instr.configure 0 false false 1 4 1 0 0).wf 4 = false ∧
    (Instr.configure 0 false false 2 4 1 1 0).wf 4 = false ∧ (Instr.configure 0 false false 3 4 1 1 1).wf 4 = false := by decide

/-- SRC_SELF = 1 with SRC = 4 (V-E10) -/
theorem test_wf_refuses_source_beside_src_self : (Instr.txEnqueue true 4 0 []).wf 4 = false := by decide

/-- LEN has five bits -/
theorem test_wf_refuses_32_payload_bytes : (Instr.txEnqueue false 4 0 (List.replicate 32 0)).wf 4 = false := by decide

/-- a word that is a SET_PHYS is no rejected word -/
theorem test_wf_refuses_a_valid_word_as_rejected : (Instr.reservedOpcode 0x20001000 []).wf 4 = false := by decide

/-- a rejected TX_ENQUEUE word with LEN = 1 comes with one byte, any other rejected word with none -/
theorem test_wf_refuses_a_wrong_payload :
    (Instr.reservedOpcode 0x30004100 []).wf 4 = false ∧ (Instr.reservedOpcode 0x60000000 [1]).wf 4 = false := by decide

/-- 9 is RcvAckSent -/
theorem test_wf_refuses_a_legal_code_as_reserved : (Instr.stReserved 9).wf 4 = false := by decide

/-! ### Decoding: the words of Part 3, each written out there from 30_encoding.md -/

theorem test_decode_configure :
    decodeTableWord 32 0x1000210F = some (.configure 15 false false 1 4 0 0 0) ∧
    decodeTableWord 32 0x10000014 = some (.configure 4 true false 0 0 0 0 0) ∧
    decodeTableWord 32 0x10000024 = some (.configure 4 false true 0 0 0 0 0) ∧
    decodeTableWord 32 0x1001520F = some (.configure 15 false false 2 2 5 0 0) := by decide

theorem test_decode_set_phys : decodeTableWord 32 0x20001000 = some (.setPhys 0x1000) := by decide

/-- the payload byte is the fifth byte, bits 39 to 32 -/
theorem test_decode_tx_enqueue :
    decodeTableWord 40 0x3630000140 = some (.txEnqueue false 4 0 [0x36]) ∧
    decodeTableWord 40 0x3630002100 = some (.txEnqueue true 0 0 [0x36]) ∧
    decodeTableWord 40 0x0130002108 = some (.txEnqueue true 0 8 [0x01]) ∧
    decodeTableWord 32 0x3000004F = some (.txEnqueue false 4 15 []) := by decide

theorem test_decode_dispatch :
    decodeTableWord 32 0x40000000 = some (.dispatch false) ∧ decodeTableWord 32 0x40000001 = some (.dispatch true) := by decide

theorem test_decode_read_status :
    decodeTableWord 32 0x50000000 = some (.readStatus false) ∧ decodeTableWord 32 0x50000001 = some (.readStatus true) := by decide

/-- V-E1 to V-E12 -/
theorem test_decode_rejected :
    ∀ w ∈ [0x00000000, 0x60000000, 0xF0000000, 0x10800000, 0x10000040, 0x10000500, 0x10002000, 0x20010000, 0x30004000, 0x30002040,
      0x40000002, 0x50000002], decodeTableWord 32 w = some (.reservedOpcode (BitVec.ofNat 32 w) []) := by decide

/-- 10_state.md R31 -/
theorem test_decode_state_codes :
    [0, 1, 2, 3, 4, 5, 6, 7, 8, 9, 10, 16, 17, 18, 19, 20, 21, 22, 23, 24, 25, 26].map (decodeTableWord 8) =
      [some .stIdle, some .stRcvStartBit1, some .stRcvStartBit2, some .stRcvData1, some .stRcvData2, some .stRcvEom1, some .stRcvEom2,
        some .stRcvAck1, some .stRcvAck2, some .stRcvAckSent, some .stRcvLineError, some .stXmitWait, some .stXmitStartBit1,
        some .stXmitStartBit2, some .stXmitData1, some .stXmitData2, some .stXmitEom1, some .stXmitEom2, some .stXmitAck1,
        some .stXmitAckTest, some .stXmitAckWait, some .stXmitAck2] := by decide

/-- V-E22 -/
theorem test_decode_reserved_codes :
    [11, 15, 27, 31].map (decodeTableWord 8) =
      [some (.stReserved 11), some (.stReserved 15), some (.stReserved 27), some (.stReserved 31)] := by decide

theorem test_encode_tx_enqueue : encodeBytes (.txEnqueue true 0 8 [0x36]) = [0x08, 0x21, 0x00, 0x30, 0x36] := by decide

/-! ### Host commands: one command -/

/-- V-AL1 -/
theorem test_configure_without_physical_address :
    (outcome (.configure 15 false false 1 4 0 0 0) State.reset).map (fun t => (status0 t.engine, t.responseWord, t.events)) =
      some (0x000F3000, some 1, []) := by decide

/-- V-AL5 -/
theorem test_configure_starts_probing :
    (outcome (.configure 15 false false 2 2 5 0 0) (seen { fresh with physAddr := 0x1000 } true 0)).map
        (fun t => (status0 t.engine, t.engine.txbuf.head?, (allocAt t.engine 0).assigned)) =
      some (0x210F7000, some 0x55, 15) := by decide

/-- V-H2 -/
theorem test_set_phys :
    (outcome (.setPhys 0x1000) State.reset).map (fun t => (t.engine.physAddr, status0 t.engine, t.responseWord)) =
      some (0x1000, 0x3000, some 1) := by decide

/-- V-EQ7 -/
theorem test_tx_enqueue_src_self :
    (outcome (.txEnqueue true 0 0 [0x36]) (seen { fresh with address := 8 } true 0)).map
        (fun t => (t.engine.txbuf.take 3, status0 t.engine, t.responseWord)) =
      some ([0x80, 0x36, 0], 0x02083000, some 1) := by decide

/-- V-EQ6: monitor mode is checked before the length -/
theorem test_tx_enqueue_monitor_before_length :
    (outcome (.txEnqueue false 4 0 (List.replicate 16 0)) (seen { fresh with monitorMode := true } true 0)).map
        (fun t => (t.responseWord, t.engine.transmitByteCount)) = some (some 0x20, 0) := by decide

/-- V-H1 -/
theorem test_dispatch_runs_idle : brief (.dispatch false) (seen fresh false 1000) = some ⟨1, true, 1000, edge, []⟩ := by decide

/-- V-E22 -/
theorem test_dispatch_reserved_state :
    exec (.dispatch false) (seen { fresh with state := 27 } true 0) = .fault .reservedState := rfl

/-- V-E15, V-E16 -/
theorem test_read_status :
    (outcome (.readStatus false) State.reset).bind (fun t => t.response.bind (·.status)) = some 0x3000 ∧
    (outcome (.readStatus true) State.reset).bind (fun t => t.response.bind (·.status)) = some 0 := by decide

/-- V-E2 -/
theorem test_reserved_opcode :
    (outcome (.reservedOpcode 0x60000000 []) State.reset).map (fun t => (t.responseWord, decide (t.engine = State.reset.engine))) =
      some (some 0x10, true) := by decide

/-! ### The receive chain: one dispatch -/

/-- V-RX1, V-RX3 -/
theorem test_idle :
    brief .stIdle (seen fresh false 1000) = some ⟨1, true, 1000, edge, []⟩ ∧
    brief .stIdle (seen { fresh with transmitByteCount := 2 } true 1000) = some ⟨16, true, 0, 0, []⟩ := by decide

/-- V-RX6, V-RX7 -/
theorem test_rcv_start_bit_1 :
    brief .stRcvStartBit1 (seen (receiving 1 1000 false) true 4700) = some ⟨2, true, 1000, 1100, []⟩ ∧
    brief .stRcvStartBit1 (seen (receiving 1 1000 false) true 4399) = some ⟨0, true, 1000, edge, []⟩ := by decide

/-- V-RX13, V-RX14 -/
theorem test_rcv_start_bit_2 :
    brief .stRcvStartBit2 (seen (receiving 2 1000 true) false 5199) = some ⟨0, true, 1000, edge, []⟩ ∧
    brief .stRcvStartBit2 (seen (receiving 2 1000 true) false 5200) = some ⟨3, true, 5200, edge, []⟩ := by decide

/-- V-RX17 -/
theorem test_rcv_data_1 :
    (outcome .stRcvData1 (seen (receiving 3 5500 false) true 6100)).map
        (fun t => (t.engine.state, t.engine.rxbuf.head?, t.engine.receiveBitCount, t.engine.rxBitPos, t.engine.ack)) =
      some (4, some 0x80, 1, 1, true) := by decide

/-- V-RX21: the eighth header bit, a broadcast -/
theorem test_rcv_data_1_header :
    (outcome .stRcvData1 (seen { receiving 3 5500 false with
        receiveBitCount := 7, rxBitPos := 7, rxbuf := 0x4E :: List.replicate 15 0, logicalAddressMask := 0x10 } true 6100)).map
      (fun t => (t.engine.rxbuf.head?, t.engine.receiveBitCount, t.engine.rxBitPos, t.engine.follower, t.engine.broadcast)) =
      some (some 0x4F, 8, 0, false, true) := by decide

/-- V-RX24, V-RX25 -/
theorem test_rcv_data_2 :
    brief .stRcvData2 (seen (receiving 4 5500 true) false 7900) = some ⟨5, true, 7900, edge, []⟩ ∧
    brief .stRcvData2 (seen { receiving 4 5500 true with rxBitPos := 1 } false 7449) = some ⟨10, false, 7449, 3600, []⟩ := by decide

/-- V-RX31 -/
theorem test_rcv_eom_1 :
    (outcome .stRcvEom1 (seen (receiving 5 23700 false) true 24700)).map
        (fun t => (t.engine.state, t.engine.eom, t.engine.ack, t.response.bind (·.wait))) =
      some (6, true, false, some 3800) := by decide

/-- V-RX32, V-RX34 -/
theorem test_rcv_eom_2 :
    brief .stRcvEom2 (seen { receiving 6 23700 true with follower := true } false 26100) = some ⟨9, false, 26100, 1500, []⟩ ∧
    brief .stRcvEom2 (seen { receiving 6 23700 true with broadcast := true } false 26100) = some ⟨7, true, 26100, edge, []⟩ := by decide

/-- V-RX46, V-RX45 -/
theorem test_rcv_ack_1 :
    let e := { receiving 7 26100 false with promiscuous := true, receiveBitCount := 8, rxbuf := 0x40 :: List.replicate 15 0 }
    brief .stRcvAck1 (seen e true 26700) = some ⟨0, true, 26100, edge, [.frameReceived [0x40] false]⟩ ∧
    brief .stRcvAck1 (seen e true 27600) = some ⟨8, true, 26100, 3300, []⟩ := by decide

/-- V-RX48, V-RX51 -/
theorem test_rcv_ack_2 :
    brief .stRcvAck2 (seen (receiving 8 26100 true) false 28500) = some ⟨3, true, 28500, edge, []⟩ ∧
    brief .stRcvAck2 (seen { receiving 8 26100 true with transmitByteCount := 2 } true 30900) = some ⟨0, true, 26100, 0, []⟩ := by decide

/-- V-RX38, V-RX41 -/
theorem test_rcv_ack_sent :
    let e := { receiving 9 26100 false with
      driveLevel := false, follower := true, eom := true, receiveBitCount := 8, rxbuf := 0x44 :: List.replicate 15 0 }
    brief .stRcvAckSent (seen e false 27600) = some ⟨0, true, 26100, edge, [.frameReceived [0x44] true]⟩ ∧
    brief .stRcvAckSent (seen e false 27000) = some ⟨9, false, 26100, 600, []⟩ := by decide

/-- V-RX52, V-RX53 -/
theorem test_rcv_line_error :
    let e := { receiving 10 9000 false with driveLevel := false }
    brief .stRcvLineError (seen e false 12600) = some ⟨0, true, 9000, edge, []⟩ ∧
    brief .stRcvLineError (seen e false 11000) = some ⟨10, false, 9000, 1600, []⟩ := by decide

/-! ### XmitWait and the transmit chain: one dispatch -/

/-- V-TX1, V-TX4 -/
theorem test_xmit_wait :
    let e := { sending 16 0 0 true true with lastStateChangeTime := 100000 }
    brief .stXmitWait (seen e true 112000) = some ⟨17, false, 112000, 3700, []⟩ ∧
    brief .stXmitWait (seen { e with wasLastTransmitter := true } true 112000) = some ⟨16, true, 0, 4800, []⟩ := by decide

/-- V-TX9, V-TX11 -/
theorem test_xmit_start_bit_1 :
    brief .stXmitStartBit1 (seen (sending 17 20000 0 false false) false 23700) = some ⟨18, true, 20000, 100, []⟩ ∧
    brief .stXmitStartBit1 (seen (sending 17 20000 0 false false) true 22000) = some ⟨0, true, 20000, 0, []⟩ := by decide

/-- V-TX12, V-TX14 -/
theorem test_xmit_start_bit_2 :
    let e := { sending 18 20000 0 true false with releaseTime := 23700 }
    brief .stXmitStartBit2 (seen e false 23750) = some ⟨18, true, 20000, 50, []⟩ ∧
    brief .stXmitStartBit2 (seen { e with lastLineState := true } true 24500) = some ⟨19, false, 24500, 1500, []⟩ := by decide

/-- V-TX16, V-TX17 -/
theorem test_xmit_data_1 :
    brief .stXmitData1 (seen (sending 19 24500 1 false false) false 25100) = some ⟨20, true, 24500, 100, []⟩ ∧
    brief .stXmitData1 (seen (sending 19 24500 0 false false) false 25100) = some ⟨19, false, 24500, 900, []⟩ := by decide

/-- V-TX18, V-TX21 -/
theorem test_xmit_data_2 :
    brief .stXmitData2 (seen { sending 20 24500 0 true true with releaseTime := 26000 } true 26900) =
      some ⟨19, false, 26900, 600, []⟩ ∧
    brief .stXmitData2 (seen { sending 20 40100 7 true true with releaseTime := 41600 } true 42500) =
      some ⟨21, false, 42500, 1500, []⟩ := by decide

/-- V-TX24, V-TX23 with its EOM of 1 -/
theorem test_xmit_eom_1 :
    brief .stXmitEom1 (seen (sending 21 42500 8 false false) false 43100) = some ⟨21, false, 42500, 900, []⟩ ∧
    brief .stXmitEom1 (seen { sending 21 42500 16 false false with eom := true } false 43100) = some ⟨22, true, 42500, 100, []⟩ := by
  decide

/-- V-TX25 -/
theorem test_xmit_eom_2 :
    brief .stXmitEom2 (seen { sending 22 42500 8 true true with releaseTime := 43100 } true 44900) =
      some ⟨23, false, 44900, 600, []⟩ := by decide

/-- V-TX26 -/
theorem test_xmit_ack_1 :
    brief .stXmitAck1 (seen (sending 23 44900 8 false false) false 45500) = some ⟨24, true, 44900, 450, []⟩ := by decide

/-- V-TX27, V-TX28, V-TX29 -/
theorem test_xmit_ack_test :
    brief .stXmitAckTest (seen { sending 24 44900 16 true false with eom := true } false 45950) =
      some ⟨0, true, 44900, edge, [.transmitComplete [0x40, 0x36] true]⟩ ∧
    brief .stXmitAckTest (seen (sending 24 44900 8 true false) false 45950) = some ⟨25, true, 44900, 1350, []⟩ ∧
    brief .stXmitAckTest (seen (sending 24 44900 8 true true) true 45950) = some ⟨0, true, 44900, 0, []⟩ := by decide

/-- 45_allocator.md, V-AL7: the second outcome of the run; the free candidate 8 is claimed and becomes the address. -/
theorem test_xmit_ack_test_probe :
    (outcome .stXmitAckTest (seen { fresh with
        state := 24, eom := true, transmitBitCursor := 8, transmitByteCount := 1, txbuf := 0x88 :: List.replicate 15 0,
        probeOwned := true, allocActive := true, allocCount := 1, alloc := ⟨4, 1, 16⟩ :: List.replicate 3 ⟨0, 0, 16⟩ } true 1050)).map
      (fun t => (t.engine.address, status1 t.engine, t.events)) =
      some (8, 0x100, [.transmitComplete [0x88] false, .ready 8]) := by decide

/-- V-TX36, V-TX37 -/
theorem test_xmit_ack_wait :
    brief .stXmitAckWait (seen (sending 25 44900 8 true false) true 46400) = some ⟨26, true, 44900, 900, []⟩ ∧
    brief .stXmitAckWait (seen (sending 25 44900 8 true false) false 47300) = some ⟨0, true, 44900, 0, []⟩ := by decide

/-- V-TX38, V-TX39 -/
theorem test_xmit_ack_2 :
    brief .stXmitAck2 (seen (sending 26 44900 8 true true) true 47300) = some ⟨19, false, 47300, 1500, []⟩ ∧
    brief .stXmitAck2 (seen (sending 26 44900 8 true true) false 46800) = some ⟨0, true, 44900, 0, []⟩ := by decide

/-- 10_state.md R54 -/
theorem test_state_reserved : exec (.stReserved 11) State.reset = .fault .reservedState := rfl

/-! ### The step, and a word placed where it fetches -/

/-- The port's first command runs and is taken off it. -/
theorem test_step_runs_the_first_command :
    (match step (State.reset.withCommandBytes ([0x00, 0x10, 0x00, 0x20] ++ [0x00])) with
      | .next t => some (t.engine.physAddr, t.ports.command)
      | .fault _ => none
      | .refused _ => none) = some (0x1000, [0x00]) := by decide

/-- A dispatch samples the next reading, and no later one. -/
theorem test_dispatch_samples_one_reading :
    (outcome (.dispatch true) { State.reset with
        ports := { State.reset.ports with upcoming := [⟨false, 1000⟩, ⟨true, 4700⟩] } }).map
      (fun t => (t.engine.lastStateChangeTime, t.ports.line, t.ports.clock, t.ports.upcoming)) =
      some (1000, false, 1000, [⟨true, 4700⟩]) := by decide

theorem test_fetch_word_runs_a_handler :
    step (State.reset.withFetchWord 8 16) = exec .stXmitWait (seen { fresh with state := 16 } true 0) := rfl

/-! ### Bit timing: V-C1 to V-C22 at the ends of the windows -/

theorem test_start_windows :
    [3399, 3400, 4000, 4001].map (fun d => isStartLow (micros d)) = [false, true, true, false] ∧
    [4199, 4200, 100000].map (fun d => isStartPeriod (micros d)) = [false, true, true] := by decide

theorem test_data_windows :
    [299, 300, 900, 901, 1199, 1200, 1800, 1801].map (fun d => dataLow (micros d)) =
      [.outOfRange, .bit1, .bit1, .outOfRange, .outOfRange, .bit0, .bit0, .outOfRange] ∧
    [1949, 1950].map (fun d => isBitPeriod (micros d)) = [false, true] := by decide

/-! ### Witnesses: a concrete input that meets the hypotheses of each statement that has some -/

theorem witness_DecodeOfEncodeIsTheInstruction :
    (Instr.configure 15 true false 4 7 0 7 1).wf 4 = true ∧ (Instr.setPhys 0xFFFF).wf 4 = true ∧
    (Instr.txEnqueue true 0 15 (List.replicate 31 0xFF)).wf 4 = true ∧ (Instr.dispatch true).wf 4 = true ∧
    (Instr.readStatus true).wf 4 = true ∧ (Instr.reservedOpcode 0x30006140 [0x36]).wf 4 = true ∧ Instr.stXmitAck2.wf 4 = true ∧
    (Instr.stReserved 31).wf 4 = true := by decide

theorem witness_CommandBytesAreReadBackWithTheRest :
    (Instr.txEnqueue false 4 0 [0x36]).wf 4 = true ∧ (Instr.txEnqueue false 4 0 [0x36]).isCommand = true := by decide

theorem witness_ReadCommandsReencodeToTheBytesTaken :
    decodeBytes 4 [0x40, 0x01, 0x00, 0x30, 0x36, 0x99] = .ok (.txEnqueue false 4 0 [0x36], [0x99]) := rfl

/-- One word for each reason of 30_encoding.md R102, at the ends of the fields. -/
theorem witness_ReservedEncodingsAreRejectedWithErrEncoding :
    (∀ w ∈ [0x0FFFFFFF, 0x60000000, 0xF0000000, 0x10800000, 0x18000000, 0x10000040, 0x10000080, 0x10000500, 0x10000700, 0x10100300,
      0x20010000, 0x28000000, 0x30004000, 0x38000000, 0x30002010, 0x40000002, 0x48000000, 0x50000002],
      ReservedEncoding 4 w) ∧
    (ReservedEncoding 4 0x30004140 ∧ [(0x36 : Byte)].length = payloadLength 0x30004140 ∧
      (State.reset.withCommandBytes [0x40, 0x41, 0x00, 0x30, 0x36, 0x99]).ports.command =
        bytesOfWord 0x30004140 ++ [0x36] ++ [0x99]) ∧
    (∀ w ∈ [0x1070040F, 0x1001520F, 0x2000FFFF, 0x3000200F, 0x30001FFF, 0x40000001, 0x50000001], ¬ ReservedEncoding 4 w) :=
  ⟨by unfold ReservedEncoding; decide, ⟨by unfold ReservedEncoding; decide, by decide, by decide⟩, by unfold ReservedEncoding; decide⟩

theorem witness_StepRunsTheDecodedCommand :
    (Instr.setPhys 0x1000).wf 4 = true ∧
    decodeBytes 4 (State.reset.withCommandBytes [0x00, 0x10, 0x00, 0x20, 0x00]).ports.command = .ok (.setPhys 0x1000, [0x00]) :=
  ⟨by decide, rfl⟩

/-- Three bytes of a word; a TX_ENQUEUE word with LEN = 2 and one payload byte. -/
theorem witness_StepWithoutAWholeCommandChangesNothing :
    (State.reset.withCommandBytes [0x00, 0x10, 0x00]).ports.command.length < 4 ∧
    (State.reset.withCommandBytes [0x40, 0x02, 0x00, 0x30, 0x36]).ports.command = bytesOfWord 0x30000240 ++ [0x36] ∧
    [(0x36 : Byte)].length < payloadLength 0x30000240 := by decide

theorem witness_DispatchRunsTheHandlerOfTheStateCode :
    (sending 26 44900 8 true true).state = 26 ∧ State.reset.engine.state = 0 := by decide

theorem witness_DispatchSamplesDrivesAndAnswers :
    isLegal State.reset.engine.state ∧ isLegal (receiving 10 0 true).state ∧ isLegal (sending 16 0 0 true true).state ∧
    isLegal (sending 26 0 8 true true).state := by decide

/-- 11, 15, 27 and 31, the ends of the two ranges; and a step of a legal state. -/
theorem witness_ReservedStateCodesAreUnreachableAndFault :
    (∀ code ∈ [(11 : StateCode), 15, 27, 31], ¬ isLegal code) ∧
    (isLegal State.reset.engine.state ∧ ∃ t, exec .stXmitWait State.reset = .next t) ∧
    (Instr.setPhys 0x1000).isCommand = true ∧ (∀ hint, Instr.setPhys 0x1000 ≠ .dispatch hint) ∧
    ∃ t, exec (.setPhys 0x1000) State.reset = .next t :=
  ⟨by decide, ⟨by decide, _, rfl⟩, rfl, by decide, _, rfl⟩

theorem witness_OnlyAReservedStateCodeFaults :
    isLegal State.reset.engine.state ∧
    step ((seen { fresh with state := 11 } true 0).withCommandBytes [0x00, 0x00, 0x00, 0x40]) = .fault .reservedState :=
  ⟨by decide, rfl⟩

theorem witness_ResetMeetsTheInvariants : Config.default.WellFormed := by decide

/-- A one-byte frame at the end of the low phase of its last data bit, and a DISPATCH on the command port. -/
def lastBit : State :=
  { State.reset with
    engine := { sending 19 40100 7 false false with transmitByteCount := 1 }
    ports := { line := false, clock := 41600, drive := false, upcoming := [], command := [0x00, 0x00, 0x00, 0x40] } }

theorem allocAt_fresh (i : Nat) : (List.replicate 4 AllocRecord.unused).getD i AllocRecord.unused = AllocRecord.unused := by
  rcases i with _ | _ | _ | _ | i <;> rfl

theorem witness_StepKeepsTheInvariants : lastBit.Inv ∧ ∃ t, step lastBit = .next t ∧ t.engine.state = 20 :=
  ⟨⟨by decide, ⟨by decide, by decide, by decide, by decide, by decide, by decide, by decide, by decide, by decide, by decide, by decide,
      by decide, by decide⟩,
    ⟨by decide, by decide, by decide, fun i _ => allocAt_fresh i, by decide, by decide, by decide, by decide,
      fun h => absurd h (by decide), fun h => absurd h (by decide), by decide⟩, by decide⟩, _, rfl, rfl⟩

/-- Probing for a free address: a run in flight meets the invariants too. -/
def probing : State := seen
  { fresh with
    state := 24, eom := true, transmitBitCursor := 8, transmitByteCount := 1, txbuf := 0x88 :: List.replicate 15 0,
    probeOwned := true, allocActive := true, allocCount := 1, physAddr := 0x1000,
    alloc := ⟨4, 1, 16⟩ :: List.replicate 3 AllocRecord.unused } true 1050

theorem witness_StepKeepsTheInvariants_probing : probing.Inv ∧ ∃ t, exec (.dispatch false) probing = .next t :=
  ⟨⟨by decide, ⟨by decide, by decide, by decide, by decide, by decide, by decide, by decide, by decide, by decide, by decide, by decide,
      by decide, by decide⟩,
    ⟨by decide, by decide, by decide, fun i h => by rcases i with _ | _ | _ | _ | i <;> first | rfl | exact absurd h (by decide),
      by decide, by decide, by decide, by decide, fun _ j hj => absurd hj (Nat.not_lt_zero j), by
        intro _ j _ hj; rcases j with _ | j
        · decide
        · exact absurd hj (by change ¬ j + 1 < 1; omega), by decide⟩, by decide⟩, _, rfl⟩

theorem witness_StepNeverWritesTheParameters : ∃ t, step lastBit = .next t := ⟨_, rfl⟩

theorem witness_OnlyConfigureWritesTheToggles :
    (∀ a p m n t0 t1 t2 t3, Instr.stIdle ≠ .configure a p m n t0 t1 t2 t3) ∧
    ∃ t, exec .stIdle (seen { fresh with promiscuous := true } true 0) = .next t :=
  ⟨by intros; exact Instr.noConfusion, _, rfl⟩

/-- A probe that ends unacknowledged and sets bit 8; a SET_PHYS with bit 4 set while a probe is pending; a CONFIGURE that runs, and one
that is busy. -/
theorem witness_OnlyConfigureClearsAClaimedAddress :
    ((∀ a p m n t0 t1 t2 t3, Instr.stXmitAckTest ≠ .configure a p m n t0 t1 t2 t3) ∧
      (candidatesOf probing.cfg (allocAt probing.engine probing.engine.allocIndex.toNat).devType)[
        (allocAt probing.engine probing.engine.allocIndex.toNat).cursor.toNat]? = some 8 ∧
      ∃ t, exec .stXmitAckTest probing = .next t ∧ t.engine.logicalAddressMask ≠ probing.engine.logicalAddressMask) ∧
    ((Instr.setPhys 0xFFFF).isCommand = true ∧ (∀ hint, Instr.setPhys 0xFFFF ≠ .dispatch hint) ∧
      (∀ a p m n t0 t1 t2 t3, Instr.setPhys 0xFFFF ≠ .configure a p m n t0 t1 t2 t3) ∧
      ({ probing.engine with logicalAddressMask := 0x10 } : Engine).logicalAddressMask.getLsbD 4 = true ∧
      ∃ t, exec (.setPhys 0xFFFF) { probing with engine := { probing.engine with logicalAddressMask := 0x10 } } = .next t) ∧
    (∃ t, exec (.configure 15 false false 1 4 0 0 0) (seen { fresh with logicalAddressMask := 0x10 } true 0) = .next t ∧
      t.responseWord = some 1) ∧
    ∃ t, exec (.configure 15 false false 1 4 0 0 0) probing = .next t ∧ t.responseWord = some 0x50 :=
  ⟨⟨by intros; exact Instr.noConfusion, by decide, _, rfl, by decide⟩,
    ⟨by decide, by decide, by intros; exact Instr.noConfusion, by decide, _, rfl⟩, ⟨_, rfl, by decide⟩, _, rfl, by decide⟩

/-- A monitoring follower at the end of an EOM bit, which a follower that does not monitor would acknowledge. -/
def monitoring : State :=
  (seen { receiving 6 23700 true with follower := true, monitorMode := true } false 26100).withCommandBytes [0x00, 0x00, 0x00, 0x40]

theorem witness_MonitorModeNeverDrivesTheLine :
    monitoring.Inv ∧ monitoring.engine.monitorMode = true ∧ ∃ t, step monitoring = .next t ∧ t.engine.state = 7 :=
  ⟨⟨by decide, ⟨by decide, by decide, by decide, by decide, by decide, by decide, by decide, by decide, by decide, by decide, by decide,
      by decide, by decide⟩,
    ⟨by decide, by decide, by decide, fun i _ => allocAt_fresh i, by decide, by decide, by decide, by decide,
      fun h => absurd h (by decide), fun h => absurd h (by decide), by decide⟩, by decide⟩, rfl, _, rfl, rfl⟩

theorem witness_RecordedTimesNeverPassTheClock :
    let s := { lastBit with ports := { lastBit.ports with upcoming := [⟨false, 41600⟩, ⟨true, 41700⟩] } }
    ClockMonotone s.ports ∧ TimesPast s ∧ ∃ t, step s = .next t :=
  ⟨by unfold ClockMonotone; decide, by unfold TimesPast; decide, _, rfl⟩

/-- Two events at the end of a run; one of a CONFIGURE whose only type has no candidate (V-AL4); none of a SET_PHYS. -/
theorem witness_EventsOfACommandFollowTheRules :
    (∃ t, exec (.dispatch false) probing = .next t ∧ t.events = [.transmitComplete [0x88] false, .ready 8]) ∧
    (∃ t, exec (.configure 15 false false 1 2 0 0 0) (seen { fresh with physAddr := 0x1000 } true 0) = .next t ∧
      t.events = [.ready 15]) ∧
    (∃ t, exec (.setPhys 0x1000) State.reset = .next t) :=
  ⟨⟨_, rfl, rfl⟩, ⟨_, rfl, rfl⟩, _, rfl⟩

theorem witness_NoFrameIsReceivedWhileTransmitting :
    isTransmitting (16 : StateCode) ∧ isTransmitting (26 : StateCode) ∧ isTransmitting lastBit.engine.state ∧
    ∃ t, exec (.dispatch false) lastBit = .next t :=
  ⟨by decide, by decide, by decide, _, rfl⟩

/-- A latency of 200 µs and a deviation of 100 µs, at both ends of the windows. -/
theorem witness_SymbolsWithinTheMarginAreClassifiedAsSent :
    200 + 100 ≤ 300 ∧
    ((lowTime true).toNat ≤ (micros 300).toNat + 300 ∧ (micros 900).toNat ≤ (lowTime true).toNat + 300) ∧
    ((lowTime false).toNat ≤ (micros 1200).toNat + 300 ∧ (micros 1800).toNat ≤ (lowTime false).toNat + 300) ∧
    (3700 ≤ (micros 3400).toNat + 300 ∧ (micros 4000).toNat ≤ 3700 + 300) ∧ 4500 ≤ (micros 4200).toNat + 300 ∧
    2400 ≤ (micros 2100).toNat + 300 := by decide

/-- Counts 0, 7, 127 and 128 of a buffer of 16 bytes. -/
theorem witness_ReceivedBitsFillTheBufferMostSignificantFirst :
    Config.default.rxCap ≤ 31 ∧ fresh.rxbuf.length = Config.default.rxCap ∧
    (0 < Config.default.rxCap * 8 ∧ 0 + 1 ≠ 8) ∧ (7 < Config.default.rxCap * 8 ∧ 7 + 1 = 8) ∧
    (127 < Config.default.rxCap * 8 ∧ 127 + 1 ≠ 8) ∧ Config.default.rxCap * 8 ≤ (128#8).toNat := by decide

theorem witness_HeaderDestinationSetsFollowerAndBroadcast :
    ({ fresh with rxbuf := 0x4F :: List.replicate 15 0 } : Engine).rxbuf.head? = some 0x4F := by decide

/-- The last byte of a full buffer. -/
theorem witness_AByteSentBitByBitArrivesUnchanged :
    Config.default.rxCap ≤ 31 ∧ fresh.rxbuf.length = Config.default.rxCap ∧ 15 < Config.default.rxCap ∧
    ({ fresh with txbuf := List.replicate 16 0x36 } : Engine).txbuf[15]? = some 0x36 ∧
    ({ fresh with receiveBitCount := 120 } : Engine).receiveBitCount = BitVec.ofNat 8 (8 * 15) := by decide

/-- V-TX19: a sender that released a 1 at 25100 and, 100 µs later, another that still drives a 0. -/
theorem witness_TheSenderOfAOneLosesArbitration :
    let loser := seen { sending 20 24500 1 true false with releaseTime := 25100 } false 25200
    let winner := seen (sending 19 24500 0 false false) false 25200
    loser.engine.state = 20 ∧ winner.engine.state = 19 ∧ winner.engine.driveLevel = false ∧
    loser.inputs.line = busOfTwo loser.engine winner.engine ∧ winner.inputs.line = busOfTwo loser.engine winner.engine ∧
    loser.cfg.lineSettle.toNat ≤ loser.sinceRelease := by decide

theorem witness_AProbeOutcomeMovesOnOrClaims :
    (candidatesOf Config.default (allocAt probing.engine 0).devType)[(allocAt probing.engine 0).cursor.toNat]? = some 8 := by decide

/-- Record 0 of a type with no candidate, record 1 with one (V-AL5); and a run with only exhausted records (V-AL4). -/
theorem witness_ProbingSkipsExhaustedRecordsOrFinishes :
    let e := { fresh with allocCount := 2, alloc := [⟨2, 0, 16⟩, ⟨5, 0, 16⟩, ⟨0, 0, 16⟩, ⟨0, 0, 16⟩] }
    let f := { fresh with allocCount := 1, alloc := [⟨2, 0, 16⟩, ⟨0, 0, 16⟩, ⟨0, 0, 16⟩, ⟨0, 0, 16⟩] }
    (e.allocIndex.toNat ≤ e.allocCount.toNat ∧ e.allocIndex.toNat ≤ 1 ∧ 1 < e.allocCount.toNat ∧
      (∀ j, j < 1 → (candidatesOf Config.default (allocAt e j).devType).length ≤ (allocAt e j).cursor.toNat) ∧
      (candidatesOf Config.default (allocAt e 1).devType)[(allocAt e 1).cursor.toNat]? = some 5) ∧
    (f.allocIndex.toNat ≤ f.allocCount.toNat ∧
      ∀ j, j < 1 → (candidatesOf Config.default (allocAt f j).devType).length ≤ (allocAt f j).cursor.toNat) := by decide

theorem witness_ReceiveHandlersLeaveTheRestUnchanged :
    Instr.stRcvData1 ∈ [Instr.stIdle, .stRcvStartBit1, .stRcvStartBit2, .stRcvData1] ∧
    ∃ t, exec .stRcvData1 (seen (receiving 3 5500 false) true 6100) = .next t ∧ t.engine.rxbuf ≠ fresh.rxbuf :=
  ⟨by decide, _, rfl, by decide⟩

theorem witness_TransmitHandlersLeaveTheRestUnchanged :
    Instr.stXmitAckTest ∈ [Instr.stXmitWait, .stXmitAck1, .stXmitAckTest] ∧
    (∃ t, exec .stXmitAckTest (seen (sending 24 44900 8 true true) true 45950) = .next t ∧ t.engine.retryCount = 1) ∧
    (sending 24 44900 8 true true).probeOwned = false :=
  ⟨by decide, ⟨_, rfl, rfl⟩, rfl⟩

end Sys2Proof.Tests
end

section
/-! PROOFS (00_scope.md). The parameters: what each host command can leave, and that no step writes them. -/

namespace Sys2Proof.Machine

open Sys2Proof

/-! ### What the two commands with checks can do -/

/-- CONFIGURE is rejected with no other change, or leaves the engine of its allocation run (46_host_interface.md R281). -/
theorem execConfigure_cases (laddr : Addr) (prom mon : Bool) (ntypes : BitVec 3) (t0 t1 t2 t3 : DevType) (s : State) :
    (configureOk s.cfg.maxDeviceTypes ntypes t0 t1 t2 t3 = false ∧
      execConfigure laddr prom mon ntypes t0 t1 t2 t3 s = .next (rejectWith .encoding s)) ∨
    ((s.engine.state ≠ LinkState.idle.code ∨ s.engine.transmitByteCount ≠ 0) ∧
      execConfigure laddr prom mon ntypes t0 t1 t2 t3 s = .next (rejectWith .busy s)) ∨
    (configureOk s.cfg.maxDeviceTypes ntypes t0 t1 t2 t3 = true ∧
      s.engine.state = LinkState.idle.code ∧ s.engine.transmitByteCount = 0 ∧
      ∃ e run, e = configured s.cfg laddr prom mon ntypes t0 t1 t2 t3 s.engine ∧
        run = (if allocationEnabled s.cfg e then startAllocation s.cfg e else (e, [])) ∧
        execConfigure laddr prom mon ntypes t0 t1 t2 t3 s = .next (acceptWith run.1 run.2 s)) := by
  unfold execConfigure
  split
  next hok => exact .inl ⟨by simpa using hok, rfl⟩
  next hok =>
    split
    next hbusy => exact .inr (.inl ⟨hbusy, rfl⟩)
    next hbusy =>
      obtain ⟨hidle, hempty⟩ := not_or.mp hbusy
      exact .inr (.inr ⟨by simpa using hok, not_not.mp hidle, not_not.mp hempty, _, _, rfl, rfl, rfl⟩)

/-- TX_ENQUEUE is rejected with no other change, or leaves the engine with the frame in its transmit buffer
(41_frame_buffers.md R141). -/
theorem execTxEnqueue_cases (srcSelf : Bool) (src dst : Addr) (payload : List Byte) (s : State) :
    (∃ r, execTxEnqueue srcSelf src dst payload s = .next (rejectWith r s)) ∨
    (txEnqueueOk srcSelf src = true ∧ s.engine.monitorMode = false ∧ s.engine.transmitByteCount = 0 ∧
      payload.length + 1 ≤ s.cfg.txCap ∧
      execTxEnqueue srcSelf src dst payload s =
        .next (acceptWith (enqueued (if srcSelf then s.engine.address else src) dst payload s.engine) [] s)) := by
  unfold execTxEnqueue
  split
  · exact .inl ⟨_, rfl⟩
  next hok =>
    split
    · exact .inl ⟨_, rfl⟩
    next hmon =>
      split
      · exact .inl ⟨_, rfl⟩
      next hempty =>
        split
        · exact .inl ⟨_, rfl⟩
        next hfits =>
          exact .inr ⟨by simpa using hok, by simpa using hmon, not_not.mp hempty, Nat.le_of_not_lt hfits, rfl⟩

/-! ### The parameters -/

@[simp] theorem runHandler_cfg (h : Config → Inputs → Engine → Reply) (s : State) : (runHandler h s).cfg = s.cfg := rfl

section CommandsKeepTheParameters

variable {s t : State}

theorem execConfigure_cfg {laddr : Addr} {prom mon : Bool} {ntypes : BitVec 3} {t0 t1 t2 t3 : DevType}
    (h : execConfigure laddr prom mon ntypes t0 t1 t2 t3 s = .next t) : t.cfg = s.cfg := by
  obtain ⟨-, h'⟩ | ⟨-, h'⟩ | ⟨-, -, -, e, run, -, -, h'⟩ := execConfigure_cases laddr prom mon ntypes t0 t1 t2 t3 s <;>
    cases h'.symm.trans h <;> simp

theorem execTxEnqueue_cfg {srcSelf : Bool} {src dst : Addr} {payload : List Byte}
    (h : execTxEnqueue srcSelf src dst payload s = .next t) : t.cfg = s.cfg := by
  obtain ⟨r, h'⟩ | ⟨-, -, -, -, h'⟩ := execTxEnqueue_cases srcSelf src dst payload s <;>
    cases h'.symm.trans h <;> simp

theorem exec_dispatch_cfg {hint : Bool} (h : exec (.dispatch hint) s = .next t) : t.cfg = s.cfg := by
  obtain ⟨S, -, hrun⟩ | ⟨-, hfault⟩ := exec_dispatch_cases hint s
  · cases hrun.symm.trans h
    exact runHandler_cfg (handlerFor S) s
  · cases hfault.symm.trans h

/-- Every host command, a rejected word included, leaves the parameters. -/
theorem exec_command_cfg {i : Instr} (hi : i.isCommand = true) (h : exec i s = .next t) : t.cfg = s.cfg :=
  match i, hi with
  | .configure .., _ => execConfigure_cfg h
  | .setPhys _, _ => by cases h; exact acceptWith_cfg ..
  | .txEnqueue .., _ => execTxEnqueue_cfg h
  | .dispatch _, _ => exec_dispatch_cfg h
  | .readStatus _, _ => by cases h; rfl
  | .reservedOpcode .., _ => by cases h; exact rejectWith_cfg ..

end CommandsKeepTheParameters

end Sys2Proof.Machine

namespace Sys2Proof

open Sys2Proof.Machine

/-- Settles O15: a step keeps the state or runs one host command, and each command leaves the parameters. -/
theorem stepNeverWritesTheParameters : Obligations.StepNeverWritesTheParameters := by
  intro s t h
  obtain ⟨err, -, hnone⟩ | ⟨i, rest, -, hcommand, hrun⟩ := step_cases s
  · cases hnone.symm.trans h
    rfl
  · calc t.cfg = (s.withCommandBytes rest).cfg := exec_command_cfg hcommand (hrun.symm.trans h)
      _ = s.cfg := withCommandBytes_cfg s rest

end Sys2Proof
end

section
/-! PROOFS (10_state.md). What one dispatch and one command can leave: the inversions the statements about the state are derived
from. -/

namespace Sys2Proof.Machine

open Sys2Proof

/-! ### What a handler can leave -/

/-- The fields the allocator's invariants speak of (10_state.md R23, R24; 45_allocator.md R261 to R268). -/
def Engine.allocation (e : Engine) : BitVec 16 × List AllocRecord × BitVec 3 × BitVec 3 × Bool × Bool × BitVec 5 :=
  (e.logicalAddressMask, e.alloc, e.allocCount, e.allocIndex, e.allocActive, e.probeOwned, e.transmitByteCount)

theorem allocation_eq_iff (e e' : Engine) : e'.allocation = e.allocation ↔
    e'.logicalAddressMask = e.logicalAddressMask ∧ e'.alloc = e.alloc ∧ e'.allocCount = e.allocCount ∧ e'.allocIndex = e.allocIndex ∧
      e'.allocActive = e.allocActive ∧ e'.probeOwned = e.probeOwned ∧ e'.transmitByteCount = e.transmitByteCount := by
  simp only [Engine.allocation, Prod.mk.injEq]

/-- What a handler can do on an engine: wait in its state, go to a state with the pending frame and the allocator as they were, or end
the pending frame. -/
inductive Handled (c : Config) (e : Engine) (r : Reply) : Prop
  | waits (engine : r.engine = e)
  | moves (S : LinkState) (state : r.engine.state = S.code) (kept : r.engine.allocation = e.allocation)
  | ends (ok : Bool) (e' : Engine) (kept : e'.allocation = e.allocation) (reply : r = finishTransmit c ok e')

section HandlersHandle

variable (c : Config) (x : Inputs) (e : Engine)

theorem storeRxBit_allocation (b : Bool) : (storeRxBit c b e).allocation = e.allocation := by
  rw [storeRxBit_frame]
  rfl

theorem enterLineError_handled : Handled c e (enterLineError c x e) := by
  unfold enterLineError
  split
  · exact .moves .idle rfl rfl
  · exact .moves .rcvLineError rfl rfl

theorem awaitFall_handled : Handled c e (awaitFall c x e) := by
  unfold awaitFall
  split
  · exact .moves .idle rfl rfl
  · exact .waits rfl

theorem transmitFailed_handled {e' : Engine} (h : e'.allocation = e.allocation) : Handled c e (transmitFailed c e') := by
  obtain ⟨hends, -⟩ | ⟨hretry, -, -⟩ := transmitFailed_cases c e'
  · exact .ends false { e' with driveLevel := true } h hends
  · rw [hretry]
    exact .moves .idle rfl h

theorem collisionAbort_handled : Handled c e (collisionAbort c e) := transmitFailed_handled c e rfl

theorem handleIdle_handled : Handled c e (handleIdle c x e) := by
  unfold handleIdle
  split
  · exact .moves .rcvStartBit1 rfl rfl
  · split
    · exact .moves .xmitWait rfl rfl
    · exact .waits rfl

theorem handleRcvStartBit1_handled : Handled c e (handleRcvStartBit1 c x e) := by
  unfold handleRcvStartBit1
  split
  · split
    · exact .moves .rcvStartBit2 rfl rfl
    · exact .moves .idle rfl rfl
  · exact .waits rfl

theorem handleRcvStartBit2_handled : Handled c e (handleRcvStartBit2 c x e) := by
  unfold handleRcvStartBit2
  split
  · split
    · exact .moves .rcvData1 rfl rfl
    · exact .moves .idle rfl rfl
  · exact awaitFall_handled c x e

theorem handleRcvData1_handled : Handled c e (handleRcvData1 c x e) := by
  unfold handleRcvData1
  split
  · exact .moves .rcvData2 rfl (storeRxBit_allocation c (clearAckIfOutOfRange (elapsed x e) e) _)
  · exact .waits rfl

theorem handleRcvData2_handled : Handled c e (handleRcvData2 c x e) := by
  unfold handleRcvData2
  split
  · split
    · exact .moves _ rfl rfl
    · exact enterLineError_handled c x e
  · exact awaitFall_handled c x e

theorem handleRcvEom1_handled : Handled c e (handleRcvEom1 c x e) := by
  unfold handleRcvEom1
  split
  · exact .moves .rcvEom2 rfl rfl
  · exact .waits rfl

theorem handleRcvEom2_handled : Handled c e (handleRcvEom2 c x e) := by
  unfold handleRcvEom2
  split
  · split
    · split
      · exact .moves .rcvAckSent rfl rfl
      · exact .moves .rcvAck1 rfl rfl
    · exact enterLineError_handled c x e
  · exact awaitFall_handled c x e

theorem handleRcvAck1_handled : Handled c e (handleRcvAck1 c x e) := by
  unfold handleRcvAck1
  split
  · dsimp only
    split
    · exact .moves .idle rfl rfl
    · split
      · exact .moves .rcvAck2 rfl rfl
      · exact .moves .idle rfl rfl
  · exact .waits rfl

theorem handleRcvAck2_handled : Handled c e (handleRcvAck2 c x e) := by
  unfold handleRcvAck2
  split
  · split
    · exact .moves .rcvData1 rfl rfl
    · exact enterLineError_handled c x e
  · exact awaitFall_handled c x e

theorem handleRcvAckSent_handled : Handled c e (handleRcvAckSent c x e) := by
  unfold handleRcvAckSent
  split
  · dsimp only
    split
    · exact .moves .idle rfl rfl
    · exact .moves .rcvAck2 rfl rfl
  · exact .waits rfl

theorem handleRcvLineError_handled : Handled c e (handleRcvLineError c x e) := by
  unfold handleRcvLineError
  split
  · exact .moves .idle rfl rfl
  · exact .waits rfl

theorem handleXmitWait_handled : Handled c e (handleXmitWait c x e) := by
  unfold handleXmitWait
  split
  · exact .moves .rcvStartBit1 rfl rfl
  · split
    · exact .moves .idle rfl rfl
    · split
      · exact .moves .xmitStartBit1 rfl rfl
      · exact .waits rfl

theorem handleXmitStartBit1_handled : Handled c e (handleXmitStartBit1 c x e) := by
  unfold handleXmitStartBit1
  split
  · exact collisionAbort_handled c e
  · split
    · exact .moves .xmitStartBit2 rfl rfl
    · exact .waits rfl

theorem handleXmitStartBit2_handled : Handled c e (handleXmitStartBit2 c x e) := by
  unfold handleXmitStartBit2
  split
  · exact collisionAbort_handled c e
  · split
    · exact .moves .xmitData1 rfl rfl
    · exact .waits rfl

theorem handleXmitData1_handled : Handled c e (handleXmitData1 c x e) := by
  unfold handleXmitData1
  split
  · exact collisionAbort_handled c e
  · split
    · exact .moves .xmitData2 rfl rfl
    · exact .waits rfl

theorem handleXmitData2_handled : Handled c e (handleXmitData2 c x e) := by
  unfold handleXmitData2
  split
  · exact collisionAbort_handled c e
  · split
    · dsimp only
      split
      · exact .moves .xmitEom1 rfl rfl
      · exact .moves .xmitData1 rfl rfl
    · exact .waits rfl

theorem handleXmitEom1_handled : Handled c e (handleXmitEom1 c x e) := by
  unfold handleXmitEom1
  split
  · exact collisionAbort_handled c e
  · split
    · exact .moves .xmitEom2 rfl rfl
    · exact .waits rfl

theorem handleXmitEom2_handled : Handled c e (handleXmitEom2 c x e) := by
  unfold handleXmitEom2
  split
  · exact collisionAbort_handled c e
  · split
    · exact .moves .xmitAck1 rfl rfl
    · exact .waits rfl

theorem handleXmitAck1_handled : Handled c e (handleXmitAck1 c x e) := by
  unfold handleXmitAck1
  split
  · exact collisionAbort_handled c e
  · split
    · exact .moves .xmitAckTest rfl rfl
    · exact .waits rfl

theorem handleXmitAckTest_handled : Handled c e (handleXmitAckTest c x e) := by
  unfold handleXmitAckTest
  split
  · exact .waits rfl
  · split
    · exact transmitFailed_handled c e rfl
    · split
      · exact .ends true { e with wasLastTransmitter := true } rfl rfl
      · split
        · exact .moves .xmitAckWait rfl rfl
        · exact .moves .xmitAck2 rfl rfl

theorem handleXmitAckWait_handled : Handled c e (handleXmitAckWait c x e) := by
  unfold handleXmitAckWait
  split
  · exact .moves .xmitAck2 rfl rfl
  · split
    · exact collisionAbort_handled c e
    · exact .waits rfl

theorem handleXmitAck2_handled : Handled c e (handleXmitAck2 c x e) := by
  unfold handleXmitAck2
  split
  · exact collisionAbort_handled c e
  · split
    · exact .moves .xmitData1 rfl rfl
    · exact .waits rfl

theorem handlerFor_handled (S : LinkState) : Handled c e (handlerFor S c x e) := by
  cases S
  exacts [handleIdle_handled c x e, handleRcvStartBit1_handled c x e, handleRcvStartBit2_handled c x e,
    handleRcvData1_handled c x e, handleRcvData2_handled c x e, handleRcvEom1_handled c x e, handleRcvEom2_handled c x e,
    handleRcvAck1_handled c x e, handleRcvAck2_handled c x e, handleRcvAckSent_handled c x e, handleRcvLineError_handled c x e,
    handleXmitWait_handled c x e, handleXmitStartBit1_handled c x e, handleXmitStartBit2_handled c x e,
    handleXmitData1_handled c x e, handleXmitData2_handled c x e, handleXmitEom1_handled c x e, handleXmitEom2_handled c x e,
    handleXmitAck1_handled c x e, handleXmitAckTest_handled c x e, handleXmitAckWait_handled c x e, handleXmitAck2_handled c x e]

end HandlersHandle

/-! ### What an instruction can leave -/

/-- What a host command other than DISPATCH can leave: the engine as it was, a physical address, a frame in the transmit buffer, or a
new configuration with its allocation run. -/
inductive CommandOutcome (i : Instr) (s t : State) : Prop
  | unchanged (engine : t.engine = s.engine)
  | physical {phys : BitVec 16} (command : i = .setPhys phys) (engine : t.engine = { s.engine with physAddr := phys })
  | enqueued {srcSelf : Bool} {src dst sender : Addr} {payload : List Byte} (command : i = .txEnqueue srcSelf src dst payload)
      (unmonitored : s.engine.monitorMode = false) (free : s.engine.transmitByteCount = 0)
      (fits : payload.length + 1 ≤ s.cfg.txCap) (engine : t.engine = Machine.enqueued sender dst payload s.engine)
  | configured {laddr : Addr} {prom mon : Bool} {ntypes : BitVec 3} {t0 t1 t2 t3 : DevType} {e : Engine}
      (command : i = .configure laddr prom mon ntypes t0 t1 t2 t3)
      (valid : configureOk s.cfg.maxDeviceTypes ntypes t0 t1 t2 t3 = true)
      (idle : s.engine.state = LinkState.idle.code) (free : s.engine.transmitByteCount = 0)
      (config : e = Machine.configured s.cfg laddr prom mon ntypes t0 t1 t2 t3 s.engine)
      (engine : t.engine = (if allocationEnabled s.cfg e then startAllocation s.cfg e else (e, [])).1)

section WhatAnInstructionCanLeave

variable {i : Instr} {s t : State}

theorem execConfigure_outcome {laddr : Addr} {prom mon : Bool} {ntypes : BitVec 3} {t0 t1 t2 t3 : DevType}
    (h : execConfigure laddr prom mon ntypes t0 t1 t2 t3 s = .next t) :
    t.ports = s.ports ∧ CommandOutcome (.configure laddr prom mon ntypes t0 t1 t2 t3) s t := by
  obtain ⟨-, h'⟩ | ⟨-, h'⟩ | ⟨hok, hidle, hfree, e, run, he, rfl, h'⟩ :=
    execConfigure_cases laddr prom mon ntypes t0 t1 t2 t3 s <;> cases h'.symm.trans h
  · exact ⟨rfl, .unchanged rfl⟩
  · exact ⟨rfl, .unchanged rfl⟩
  · exact ⟨rfl, .configured rfl hok hidle hfree he rfl⟩

theorem execTxEnqueue_outcome {srcSelf : Bool} {src dst : Addr} {payload : List Byte}
    (h : execTxEnqueue srcSelf src dst payload s = .next t) :
    t.ports = s.ports ∧ CommandOutcome (.txEnqueue srcSelf src dst payload) s t := by
  obtain ⟨r, h'⟩ | ⟨-, hmon, hfree, hfits, h'⟩ := execTxEnqueue_cases srcSelf src dst payload s <;> cases h'.symm.trans h
  · exact ⟨rfl, .unchanged rfl⟩
  · exact ⟨rfl, .enqueued rfl hmon hfree hfits rfl⟩

theorem exec_command_outcome (hi : i.isCommand = true) (hd : ∀ hint, i ≠ .dispatch hint) (h : exec i s = .next t) :
    t.ports = s.ports ∧ CommandOutcome i s t :=
  match i, hi with
  | .configure .., _ => execConfigure_outcome h
  | .setPhys _, _ => by cases h; exact ⟨rfl, .physical rfl rfl⟩
  | .txEnqueue .., _ => execTxEnqueue_outcome h
  | .dispatch hint, _ => absurd rfl (hd hint)
  | .readStatus _, _ => by cases h; exact ⟨rfl, .unchanged rfl⟩
  | .reservedOpcode .., _ => by cases h; exact ⟨rfl, .unchanged rfl⟩

/-- What is no host command is a state's handler row or the reserved row. -/
theorem eq_row_of_not_isCommand (hi : i.isCommand = false) : (∃ S, i = handlerInstr S) ∨ ∃ code, i = .stReserved code :=
  match i, hi with
  | .stIdle, _ => .inl ⟨.idle, rfl⟩
  | .stRcvStartBit1, _ => .inl ⟨.rcvStartBit1, rfl⟩
  | .stRcvStartBit2, _ => .inl ⟨.rcvStartBit2, rfl⟩
  | .stRcvData1, _ => .inl ⟨.rcvData1, rfl⟩
  | .stRcvData2, _ => .inl ⟨.rcvData2, rfl⟩
  | .stRcvEom1, _ => .inl ⟨.rcvEom1, rfl⟩
  | .stRcvEom2, _ => .inl ⟨.rcvEom2, rfl⟩
  | .stRcvAck1, _ => .inl ⟨.rcvAck1, rfl⟩
  | .stRcvAck2, _ => .inl ⟨.rcvAck2, rfl⟩
  | .stRcvAckSent, _ => .inl ⟨.rcvAckSent, rfl⟩
  | .stRcvLineError, _ => .inl ⟨.rcvLineError, rfl⟩
  | .stXmitWait, _ => .inl ⟨.xmitWait, rfl⟩
  | .stXmitStartBit1, _ => .inl ⟨.xmitStartBit1, rfl⟩
  | .stXmitStartBit2, _ => .inl ⟨.xmitStartBit2, rfl⟩
  | .stXmitData1, _ => .inl ⟨.xmitData1, rfl⟩
  | .stXmitData2, _ => .inl ⟨.xmitData2, rfl⟩
  | .stXmitEom1, _ => .inl ⟨.xmitEom1, rfl⟩
  | .stXmitEom2, _ => .inl ⟨.xmitEom2, rfl⟩
  | .stXmitAck1, _ => .inl ⟨.xmitAck1, rfl⟩
  | .stXmitAckTest, _ => .inl ⟨.xmitAckTest, rfl⟩
  | .stXmitAckWait, _ => .inl ⟨.xmitAckWait, rfl⟩
  | .stXmitAck2, _ => .inl ⟨.xmitAck2, rfl⟩
  | .stReserved code, _ => .inr ⟨code, rfl⟩

theorem exec_dispatch_next {hint : Bool} (h : exec (.dispatch hint) s = .next t) :
    ∃ S : LinkState, s.engine.state = S.code ∧ t = runHandler (handlerFor S) s := by
  obtain ⟨S, hS, hrun⟩ | ⟨-, hfault⟩ := exec_dispatch_cases hint s
  · cases hrun.symm.trans h
    exact ⟨S, hS, rfl⟩
  · cases hfault.symm.trans h

/-- A host command that completes is a DISPATCH that ran the handler of its state, or leaves the ports and has its outcome. -/
theorem exec_command_cases (hi : i.isCommand = true) (h : exec i s = .next t) :
    (∃ S : LinkState, s.engine.state = S.code ∧ t = runHandler (handlerFor S) s) ∨ (t.ports = s.ports ∧ CommandOutcome i s t) := by
  by_cases hd : ∃ hint, i = .dispatch hint
  · obtain ⟨hint, rfl⟩ := hd
    exact .inl (exec_dispatch_next h)
  · exact .inr (exec_command_outcome hi (fun hint hhint => hd ⟨hint, hhint⟩) h)

/-- An instruction that completes ran a handler, or is a host command other than DISPATCH. -/
theorem exec_next_cases (h : exec i s = .next t) :
    (∃ S : LinkState, t = runHandler (handlerFor S) s) ∨ CommandOutcome i s t := by
  cases hi : i.isCommand with
  | true =>
    obtain ⟨S, -, ht⟩ | ⟨-, hc⟩ := exec_command_cases hi h
    · exact .inl ⟨S, ht⟩
    · exact .inr hc
  | false =>
    obtain ⟨S, rfl⟩ | ⟨code, rfl⟩ := eq_row_of_not_isCommand hi
    · cases (exec_handlerInstr S s).symm.trans h
      exact .inl ⟨S, rfl⟩
    · cases h

end WhatAnInstructionCanLeave

/-! ### State codes (10_state.md R54) -/

theorem Handled.isLegal {c : Config} {e : Engine} {r : Reply} (h : Handled c e r) (he : isLegal e.state) : isLegal r.engine.state := by
  cases h with
  | waits engine => rwa [engine]
  | moves S state => exact state ▸ isLegal_code S
  | ends ok e' _ reply => exact reply ▸ isLegal_code .idle

theorem startAllocation_same (c : Config) (e : Engine) : SameOutsideAllocation e (startAllocation c e).1 := by
  have hstart : SameOutsideAllocation e { e with allocIndex := 0, allocActive := true, allocDone := false } :=
    ⟨rfl, rfl, fun _ _ => rfl, .inl rfl, .inl rfl, .inl rfl, fun _ => id⟩
  exact hstart.trans (probeLoop_same c _ _)

theorem SameOutsideAllocation.state {e e' : Engine} (h : SameOutsideAllocation e e') : e'.state = e.state :=
  (congrArg Engine.state h.eq :)

theorem CommandOutcome.state {i : Instr} {s t : State} (h : CommandOutcome i s t) : t.engine.state = s.engine.state := by
  cases h with
  | unchanged engine => rw [engine]
  | physical _ engine => rw [engine]
  | enqueued _ _ _ _ engine => rw [engine, enqueued_state]
  | configured _ _ _ _ config engine =>
    rw [engine]
    split
    · rw [(startAllocation_same _ _).state, config]
      rfl
    · rw [config]
      rfl

theorem exec_keeps_isLegal {i : Instr} {s t : State} (h : exec i s = .next t) (hs : isLegal s.engine.state) :
    isLegal t.engine.state := by
  obtain ⟨S, rfl⟩ | hc := exec_next_cases h
  · exact (handlerFor_handled s.cfg s.inputs s.observed S).isLegal hs
  · rwa [hc.state]

/-! ### The mask (10_state.md R23) -/

theorem candidateAt_of_getElem? {c : Config} {ty : DevType} {k : Nat} {a : Addr} (h : (candidatesOf c ty)[k]? = some a) :
    candidateAt c ty k = a := by
  rw [candidateAt, List.getD_eq_getElem?_getD, h, Option.getD_some]

theorem claimInMask_eq (mask : BitVec 16) (a : Addr) : claimInMask mask a = mask ||| BitVec.twoPow 16 a.toNat := by
  rw [claimInMask, BitVec.twoPow_eq]

/-- A handler changes the mask only where it ends an allocator's probe unacknowledged, and then claims the candidate in flight. -/
theorem Handled.mask {c : Config} {e : Engine} {r : Reply} (h : Handled c e r) :
    r.engine.logicalAddressMask = e.logicalAddressMask ∨
      e.probeOwned = true ∧ (∃ frame later, r.events = .transmitComplete frame false :: later) ∧
        r.engine.logicalAddressMask = claimInMask e.logicalAddressMask
          (candidateAt c (allocAt e e.allocIndex.toNat).devType (allocAt e e.allocIndex.toNat).cursor.toNat) := by
  cases h with
  | waits engine => exact .inl (by rw [engine])
  | moves S _ kept => exact .inl ((allocation_eq_iff _ _).mp kept).1
  | ends ok e' kept reply =>
    obtain ⟨hmask, halloc, -, hindex, -, howned, -⟩ := (allocation_eq_iff _ _).mp kept
    subst reply
    rw [allocAt, ← hmask, ← halloc, ← hindex, ← howned]
    obtain hsame | ⟨hprobe, rfl, hclaim⟩ := finishTransmit_mask c ok e'
    · exact .inl hsame
    · exact .inr ⟨hprobe, ⟨_, _, rfl⟩, hclaim⟩

/-- The mask after a dispatch, told of the state before it: the sampling changes no field the allocator reads. -/
theorem runHandler_mask (S : LinkState) (s : State) :
    (runHandler (handlerFor S) s).engine.logicalAddressMask = s.engine.logicalAddressMask ∨
      s.engine.probeOwned = true ∧
        (∃ frame later, (runHandler (handlerFor S) s).events = .transmitComplete frame false :: later) ∧
        (runHandler (handlerFor S) s).engine.logicalAddressMask = claimInMask s.engine.logicalAddressMask
          (candidateAt s.cfg (allocAt s.engine s.engine.allocIndex.toNat).devType
            (allocAt s.engine s.engine.allocIndex.toNat).cursor.toNat) :=
  (handlerFor_handled s.cfg s.inputs s.observed S).mask

theorem CommandOutcome.mask {i : Instr} {s t : State} (hi : ∀ a p m n t0 t1 t2 t3, i ≠ .configure a p m n t0 t1 t2 t3)
    (h : CommandOutcome i s t) : t.engine.logicalAddressMask = s.engine.logicalAddressMask := by
  cases h with
  | unchanged engine => rw [engine]
  | physical _ engine => rw [engine]
  | enqueued _ _ _ _ engine => rw [engine, enqueued_logicalAddressMask]
  | configured command => exact absurd command (hi _ _ _ _ _ _ _ _)

/-- The run CONFIGURE starts sets no bit of the mask it has just cleared. -/
theorem startAllocation_mask (c : Config) (e : Engine) : (startAllocation c e).1.logicalAddressMask = e.logicalAddressMask :=
  probeLoop_mask c _ _

theorem execConfigure_mask {laddr : Addr} {prom mon : Bool} {ntypes : BitVec 3} {t0 t1 t2 t3 : DevType} {s t : State}
    (h : execConfigure laddr prom mon ntypes t0 t1 t2 t3 s = .next t) :
    t.engine = s.engine ∨ t.engine.logicalAddressMask = 0 := by
  obtain ⟨-, h'⟩ | ⟨-, h'⟩ | ⟨-, -, -, e, run, rfl, rfl, h'⟩ :=
    execConfigure_cases laddr prom mon ntypes t0 t1 t2 t3 s <;> cases h'.symm.trans h
  · exact .inl rfl
  · exact .inl rfl
  · refine .inr ?_
    rw [acceptWith_engine]
    split
    · exact startAllocation_mask ..
    · rfl

end Sys2Proof.Machine

namespace Sys2Proof

open Sys2Proof.Machine

/-- Settles O10: a handler leaves its state or goes to one of the 22, and no other command writes `state`. -/
theorem reservedStateCodesAreUnreachableAndFault : Obligations.ReservedStateCodesAreUnreachableAndFault :=
  ⟨fun _ _ _ hs h => exec_keeps_isLegal h hs, fun _ _ _ hi hd h => (exec_command_outcome hi hd h).2.state,
    fun s hint hs => exec_dispatch_reserved hint s hs, fun _ _ => rfl⟩

/-- Settles O16: no handler writes the toggles, and of the commands only CONFIGURE does. -/
theorem onlyConfigureWritesTheToggles : Obligations.OnlyConfigureWritesTheToggles := by
  intro i s t hi h
  obtain ⟨S, rfl⟩ | hc := exec_next_cases h
  · have huntouched := handlerFor_untouched S s.cfg s.inputs s.observed
    exact ⟨huntouched.promiscuous, huntouched.monitorMode⟩
  · cases hc with
    | unchanged engine => exact ⟨by rw [engine], by rw [engine]⟩
    | physical _ engine => exact ⟨by rw [engine], by rw [engine]⟩
    | enqueued _ _ _ _ engine => exact ⟨by rw [engine, enqueued_promiscuous], by rw [engine, enqueued_monitorMode]⟩
    | configured command => exact absurd command (hi _ _ _ _ _ _ _ _)

/-- Settles O17: the mask changes only where a handler ends a probe unacknowledged, which adds the candidate in flight; CONFIGURE clears
it. -/
theorem onlyConfigureClearsAClaimedAddress : Obligations.OnlyConfigureClearsAClaimedAddress := by
  refine ⟨fun i s t hi h => ?_, fun i s t hi hd hconfigure h => (exec_command_outcome hi hd h).2.mask hconfigure,
    fun _ _ _ _ _ _ _ _ _ _ h => execConfigure_mask h⟩
  obtain ⟨S, rfl⟩ | hc := exec_next_cases h
  · obtain hsame | ⟨howned, hevents, hclaim⟩ := runHandler_mask S s
    · rw [hsame]
      exact ⟨fun _ => id, fun hne => absurd rfl hne⟩
    · rw [claimInMask_eq] at hclaim
      refine ⟨fun a ha => ?_, fun _ => ⟨howned, hevents, fun a ha => ?_⟩⟩
      · rw [hclaim, BitVec.getLsbD_or, Bool.or_eq_true]
        exact .inl ha
      · rw [← candidateAt_of_getElem? ha]
        exact hclaim
  · rw [hc.mask hi]
    exact ⟨fun _ => id, fun hne => absurd rfl hne⟩

end Sys2Proof
end

section
/-! PROOFS (10_state.md R48 item 5; 45_allocator.md). The invariants of the allocator: what a claim and a probe keep, and that a run ends
in a probe in flight or at rest. -/

namespace Sys2Proof.Machine

open Sys2Proof

/-! ### The records of a run -/

/-- What holds of the records of an allocation run between two probes, on the fields it reads. -/
structure RecordsInv (c : Config) (records : List AllocRecord) (count index : BitVec 3) (mask : BitVec 16) : Prop where
  size : records.length = c.maxDeviceTypes
  countFits : count.toNat ≤ c.maxDeviceTypes
  indexFits : index.toNat ≤ count.toNat
  unused : ∀ i, count.toNat ≤ i → records.getD i AllocRecord.unused = AllocRecord.unused
  sentinelUnclaimed : mask.getLsbD 15 = false
  resolvedBefore : ∀ j, j < index.toNat → (records.getD j AllocRecord.unused).assigned ≠ unassigned
  openAfter : ∀ j, index.toNat ≤ j → j < count.toNat → (records.getD j AllocRecord.unused).assigned = unassigned

/-- The engine's records meet the invariant of a run. -/
def Engine.RunInv (c : Config) (e : Engine) : Prop := RecordsInv c e.alloc e.allocCount e.allocIndex e.logicalAddressMask

theorem allocInv_of_allocation_eq {c : Config} {e e' : Engine} (h : e.AllocInv c) (heq : e'.allocation = e.allocation) :
    e'.AllocInv c := by
  obtain ⟨hmask, halloc, hcount, hindex, hactive, howned, hbytes⟩ := (allocation_eq_iff e e').mp heq
  constructor <;> simp only [allocAt, hmask, halloc, hcount, hindex, hactive, howned, hbytes]
  exacts [h.size, h.count, h.index, h.unused, h.sentinelUnclaimed, h.owned, h.probe, h.inFlight, h.resolvedBefore, h.openAfter,
    h.candidate]

section Runs

variable {c : Config} {e : Engine}

theorem Engine.AllocInv.run (h : e.AllocInv c) (ha : e.allocActive = true) : e.RunInv c :=
  ⟨h.size, h.count, h.index, h.unused, h.sentinelUnclaimed, h.resolvedBefore ha, h.openAfter ha⟩

/-- An allocator at rest: no run is in flight, so only what holds of the records at all times is left to say. -/
theorem Engine.AllocInv.of_inactive (size : e.alloc.length = c.maxDeviceTypes) (count : e.allocCount.toNat ≤ c.maxDeviceTypes)
    (index : e.allocIndex.toNat ≤ e.allocCount.toNat)
    (unused : ∀ i, e.allocCount.toNat ≤ i → allocAt e i = AllocRecord.unused)
    (sentinelUnclaimed : e.logicalAddressMask.getLsbD 15 = false) (ha : e.allocActive = false) (ho : e.probeOwned = false) :
    e.AllocInv c :=
  have hidle : ∀ {P : Prop}, e.allocActive = true → P := fun hactive => absurd (ha.symm.trans hactive) Bool.false_ne_true
  ⟨size, count, index, unused, sentinelUnclaimed, ho.trans ha.symm, hidle, hidle, hidle, hidle, hidle⟩

theorem Engine.RunInv.resting (h : e.RunInv c) (ha : e.allocActive = false) (ho : e.probeOwned = false) : e.AllocInv c :=
  .of_inactive h.size h.countFits h.indexFits h.unused h.sentinelUnclaimed ha ho

theorem getD_set_of_lt {α : Type} {l : List α} {i : Nat} (h : i < l.length) (j : Nat) (a d : α) :
    (l.set i a).getD j d = if j = i then a else l.getD j d := by
  rw [List.getD_eq_getElem?_getD, List.getD_eq_getElem?_getD, List.getElem?_set]
  by_cases hj : i = j
  · subst hj
    simp [h]
  · simp [hj, Ne.symm hj]

theorem Engine.RunInv.index_lt_length (h : e.RunInv c) (hlt : e.allocIndex.toNat < e.allocCount.toNat) :
    e.allocIndex.toNat < e.alloc.length := by
  rw [h.size]
  exact Nat.lt_of_lt_of_le hlt h.countFits

theorem setWidth_ne_unassigned (a : Addr) : (a.setWidth 5 : BitVec 5) ≠ unassigned := by
  revert a
  decide

/-- `Claim` (45_allocator.md R265) never claims the address 15 in the mask, unless it is a candidate (10_state.md R23). -/
theorem claim_sentinelUnclaimed {a : Addr} (ha : a ≠ c.unregisteredAddr → a ≠ 0xF) (h : e.logicalAddressMask.getLsbD 15 = false) :
    (claim c a e).logicalAddressMask.getLsbD 15 = false := by
  unfold claim
  dsimp only
  split
  · exact h
  next hne =>
    have hne15 : a.toNat ≠ 15 := BitVec.toNat_ne.mp (ha hne)
    rw [claimInMask_eq, BitVec.getLsbD_or, h, BitVec.getLsbD_twoPow]
    simp [hne15]

/-- A claim resolves the record in flight and goes on to the next (45_allocator.md R265). -/
theorem Engine.RunInv.claim (h : e.RunInv c) (hlt : e.allocIndex.toNat < e.allocCount.toNat) {a : Addr}
    (ha : a ≠ c.unregisteredAddr → a ≠ 0xF) : (claim c a e).RunInv c := by
  have hset := getD_set_of_lt (h.index_lt_length hlt)
  have hnext : (e.allocIndex + 1).toNat = e.allocIndex.toNat + 1 := by
    have := e.allocCount.isLt
    rw [BitVec.toNat_add]
    exact Nat.mod_eq_of_lt (by simp; omega)
  refine ⟨?_, h.countFits, ?_, fun i hi => ?_, claim_sentinelUnclaimed ha h.sentinelUnclaimed, fun j hj => ?_, fun j hj hj' => ?_⟩
  · exact List.length_set.trans h.size
  · rw [claim_allocIndex, hnext]
    exact hlt
  · rw [claim_allocCount] at hi
    exact (hset i _ _).trans ((if_neg (by omega)).trans (h.unused i hi))
  · rw [claim_allocIndex, hnext] at hj
    refine (congrArg AllocRecord.assigned (hset j _ _)).trans_ne ?_
    split
    · exact setWidth_ne_unassigned a
    · exact h.resolvedBefore j (by omega)
  · rw [claim_allocIndex, hnext] at hj
    exact (congrArg AllocRecord.assigned ((hset j _ _).trans (if_neg (by omega)))).trans (h.openAfter j (by omega) hj')

/-- A loaded probe is in flight (45_allocator.md R263). -/
theorem Engine.RunInv.loadProbe (h : e.RunInv c) (ha : e.allocActive = true) (hlt : e.allocIndex.toNat < e.allocCount.toNat)
    (hcandidate : (allocAt e e.allocIndex.toNat).cursor.toNat <
      (candidatesOf c (allocAt e e.allocIndex.toNat).devType).length) (a : Addr) : (loadProbe a e).AllocInv c :=
  ⟨h.size, h.countFits, h.indexFits, h.unused, h.sentinelUnclaimed, ha.symm, fun _ => rfl, fun _ => hlt, fun _ => h.resolvedBefore,
    fun _ => h.openAfter, fun _ => hcandidate⟩

/-- `ProbeCurrent` (45_allocator.md R263) ends with a probe in flight, or with the run finished. -/
theorem Engine.RunInv.probeLoop (h : e.RunInv c) (ha : e.allocActive = true) (ho : e.probeOwned = false) {n : Nat}
    (hn : n = e.allocCount.toNat - e.allocIndex.toNat) : (probeLoop c n e).1.AllocInv c := by
  induction n generalizing e with
  | zero => exact resting (e := finishAllocation e) h rfl ho
  | succ n ih =>
    have hlt : e.allocIndex.toNat < e.allocCount.toNat := by omega
    unfold Machine.probeLoop
    dsimp only
    split
    · refine ih (h.claim hlt fun hne => absurd rfl hne) ha ho ?_
      have := e.allocCount.isLt
      rw [claim_allocCount, claim_allocIndex, BitVec.toNat_add]
      simp
      omega
    next hleft => exact h.loadProbe ha hlt (Nat.lt_of_not_le hleft) _

end Runs

/-! ### Candidates (45_allocator.md R260) -/

theorem candidatesOf_wellFormed {c : Config} (hw : c.WellFormed) (ty : DevType) :
    (candidatesOf c ty).length ≤ 15 ∧ ∀ a ∈ candidatesOf c ty, a ≠ 0xF := by
  obtain ⟨-, -, -, -, hlists⟩ := hw
  rw [candidatesOf, List.getD_eq_getElem?_getD]
  cases h : c.candidates[ty.toNat]? with
  | none => exact ⟨by simp, by simp⟩
  | some l => exact hlists l (List.mem_of_getElem? h)

theorem candidateAt_mem {c : Config} {ty : DevType} {k : Nat} (h : k < (candidatesOf c ty).length) :
    candidateAt c ty k ∈ candidatesOf c ty := by
  rw [candidateAt_of_getElem? (List.getElem?_eq_getElem h)]
  exact List.getElem_mem h

/-! ### The end of a frame -/

section EndOfAFrame

variable {c : Config} {e : Engine}

/-- An acknowledged probe moves on to the next candidate of the record in flight (45_allocator.md R264). -/
theorem Engine.RunInv.nextCandidate (h : e.RunInv c) (hlt : e.allocIndex.toNat < e.allocCount.toNat) (cursor : BitVec 4) :
    ({ e with alloc := e.alloc.set e.allocIndex.toNat { allocAt e e.allocIndex.toNat with cursor := cursor } } : Engine).RunInv c := by
  have hset := getD_set_of_lt (h.index_lt_length hlt)
  refine ⟨List.length_set.trans h.size, h.countFits, h.indexFits, fun i hi => ?_, h.sentinelUnclaimed, fun j hj => ?_, fun j hj hj' => ?_⟩
  · exact (hset i _ _).trans ((if_neg (by change e.allocCount.toNat ≤ i at hi; omega)).trans (h.unused i hi))
  · change j < e.allocIndex.toNat at hj
    rw [hset, if_neg (by omega)]
    exact h.resolvedBefore j hj
  · rw [hset]
    split
    · exact h.openAfter e.allocIndex.toNat le_rfl hlt
    · exact h.openAfter j hj hj'

theorem allocatorResolve_allocInv (hw : c.WellFormed) (h : e.RunInv c) (ha : e.allocActive = true) (ho : e.probeOwned = false)
    (hlt : e.allocIndex.toNat < e.allocCount.toNat)
    (hcandidate : (allocAt e e.allocIndex.toNat).cursor.toNat <
      (candidatesOf c (allocAt e e.allocIndex.toNat).devType).length) (acked : Bool) :
    (allocatorResolve c acked e).1.AllocInv c := by
  unfold allocatorResolve
  dsimp only
  split
  · exact (h.nextCandidate hlt _).probeLoop ha ho rfl
  · exact (h.claim hlt fun _ => (candidatesOf_wellFormed hw _).2 _ (candidateAt_mem hcandidate)).probeLoop ha ho rfl

theorem finishTransmit_engine_of_probe (ok : Bool) (ho : e.probeOwned = true) :
    (finishTransmit c ok e).engine = goto .idle (allocatorResolve c ok
      { e with transmitByteCount := 0, transmitBitCursor := 0, retryCount := 0, probeOwned := false }).1 := by
  unfold finishTransmit
  dsimp only
  rw [if_pos ho]
  rfl

/-- `FinishTransmit` (44_arbitration.md R248) resolves the probe in flight, or finds the allocator at rest. -/
theorem finishTransmit_allocInv (hw : c.WellFormed) (h : e.AllocInv c) (ok : Bool) : (finishTransmit c ok e).engine.AllocInv c := by
  cases ho : e.probeOwned with
  | true =>
    have ha : e.allocActive = true := h.owned.symm.trans ho
    rw [finishTransmit_engine_of_probe ok ho]
    exact allocInv_of_allocation_eq (allocatorResolve_allocInv
      (e := { e with transmitByteCount := 0, transmitBitCursor := 0, retryCount := 0, probeOwned := false }) hw (h.run ha) ha rfl
      (h.inFlight ha) (h.candidate ha) ok) rfl
  | false =>
    have ha : e.allocActive = false := h.owned.symm.trans ho
    obtain ⟨-, hengine, -⟩ | ⟨hprobe, -⟩ := finishTransmit_cases c ok e
    · rw [hengine]
      exact .of_inactive h.size h.count h.index h.unused h.sentinelUnclaimed ha rfl
    · exact absurd (ho.symm.trans hprobe) Bool.false_ne_true

/-- Every handler keeps the allocator's invariants. -/
theorem Handled.allocInv {r : Reply} (hw : c.WellFormed) (h : Handled c e r) (he : e.AllocInv c) : r.engine.AllocInv c := by
  cases h with
  | waits engine => rwa [engine]
  | moves S _ kept => exact allocInv_of_allocation_eq he kept
  | ends ok e' kept reply => exact reply ▸ finishTransmit_allocInv hw (allocInv_of_allocation_eq he kept) ok

end EndOfAFrame

/-! ### The records CONFIGURE creates (46_host_interface.md R281) -/

theorem newRecords_getD (n : Nat) (ntypes : BitVec 3) (t0 t1 t2 t3 : DevType) (i : Nat) :
    ((newRecords n ntypes t0 t1 t2 t3).getD i AllocRecord.unused).assigned = unassigned ∧
      (ntypes.toNat ≤ i → (newRecords n ntypes t0 t1 t2 t3).getD i AllocRecord.unused = AllocRecord.unused) := by
  rw [newRecords, List.getD_eq_getElem?_getD, List.getElem?_map]
  cases hi : (List.range n)[i]? with
  | none => exact ⟨rfl, fun _ => rfl⟩
  | some k =>
    obtain ⟨hlt, rfl⟩ := List.getElem?_eq_some_iff.mp hi
    rw [Option.map_some, Option.getD_some, List.getElem_range hlt]
    exact ⟨by split <;> rfl, fun hle => if_neg (Nat.not_lt.mpr hle)⟩

theorem configured_runInv {c : Config} {ntypes : BitVec 3} {t0 t1 t2 t3 : DevType}
    (hvalid : configureOk c.maxDeviceTypes ntypes t0 t1 t2 t3 = true) (laddr : Addr) (prom mon : Bool) (e : Engine) :
    (configured c laddr prom mon ntypes t0 t1 t2 t3 e).RunInv c := by
  have hcount : ntypes.toNat ≤ c.maxDeviceTypes := by
    simp only [configureOk, Bool.and_eq_true, decide_eq_true_eq] at hvalid
    exact hvalid.1.1.1.1
  have hrecord := newRecords_getD c.maxDeviceTypes ntypes t0 t1 t2 t3
  exact ⟨by simp [configured, newRecords], hcount, Nat.zero_le _, fun i => (hrecord i).2, by simp [configured],
    fun j hj => absurd hj (Nat.not_lt_zero j), fun j _ _ => (hrecord j).1⟩

theorem startAllocation_allocInv {c : Config} {e : Engine} (h : e.RunInv c) (hindex : e.allocIndex = 0) (ho : e.probeOwned = false) :
    (startAllocation c e).1.AllocInv c := by
  have hstart : ({ e with allocIndex := 0, allocActive := true, allocDone := false } : Engine).RunInv c := by
    rw [Engine.RunInv, hindex] at h
    exact h
  exact hstart.probeLoop rfl ho rfl

/-- Every host command other than DISPATCH keeps the allocator's invariants. -/
theorem CommandOutcome.allocInv {i : Instr} {s t : State} (h : CommandOutcome i s t) (hs : s.engine.AllocInv s.cfg) :
    t.engine.AllocInv s.cfg := by
  cases h with
  | unchanged engine => rwa [engine]
  | physical _ engine => exact allocInv_of_allocation_eq hs (by rw [engine]; rfl)
  | enqueued _ _ free _ engine =>
    have hrest : s.engine.allocActive ≠ true := fun ha => absurd (free.symm.trans (hs.probe ha)) (by decide)
    rw [engine]
    exact .of_inactive hs.size hs.count hs.index hs.unused hs.sentinelUnclaimed (Bool.eq_false_iff.mpr hrest) rfl
  | @configured _ _ _ _ _ _ _ _ e _ valid _ _ config engine =>
    have hrun : e.RunInv s.cfg := config ▸ configured_runInv valid _ _ _ _
    rw [engine]
    split
    · exact startAllocation_allocInv hrun (by rw [config]; rfl) (by rw [config]; rfl)
    · exact hrun.resting (by rw [config]; rfl) (by rw [config]; rfl)

end Sys2Proof.Machine
end

section
/-! PROOFS (10_state.md R48 items 1 to 4, 6, 7). The invariants of the link, told by state: what each state requires of the line and of the
cursor, and that every handler leaves the engine in a state that requires no more than it finds. -/

namespace Sys2Proof.Machine

open Sys2Proof

/-! ### What each state requires -/

/-- The state pulls the line low (10_state.md R31). -/
def drives : LinkState → Bool
  | .rcvAckSent | .rcvLineError | .xmitStartBit1 | .xmitData1 | .xmitEom1 | .xmitAck1 => true
  | .idle | .rcvStartBit1 | .rcvStartBit2 | .rcvData1 | .rcvData2 | .rcvEom1 | .rcvEom2 | .rcvAck1 | .rcvAck2 | .xmitWait
  | .xmitStartBit2 | .xmitData2 | .xmitEom2 | .xmitAckTest | .xmitAckWait | .xmitAck2 => false

theorem drives_iff_isDriving (S : LinkState) : drives S = true ↔ isDriving S.code := by
  cases S <;> decide

/-- Where the bit cursor stands in a state, for a pending frame of `count` bytes (10_state.md R48 items 2 and 3): at the start before the
first data bit, on a bit of the frame while one is to be sent, and at a byte's end, the frame's when `eom` is set. -/
def CursorIn (S : LinkState) (cursor : BitVec 8) (count : BitVec 5) (eom : Bool) : Prop :=
  match S with
  | .idle | .rcvStartBit1 | .rcvStartBit2 | .rcvData1 | .rcvData2 | .rcvEom1 | .rcvEom2 | .rcvAck1 | .rcvAck2 | .rcvAckSent
  | .rcvLineError => cursor = 0
  | .xmitWait | .xmitStartBit1 | .xmitStartBit2 => cursor = 0 ∧ count ≠ 0
  | .xmitData1 | .xmitData2 | .xmitAckWait | .xmitAck2 => cursor.toNat < count.toNat * 8
  | .xmitEom1 | .xmitEom2 | .xmitAck1 | .xmitAckTest =>
    count ≠ 0 ∧ cursor.toNat ≤ count.toNat * 8 ∧ cursor.toNat % 8 = 0 ∧ (eom = true ↔ cursor.toNat = count.toNat * 8)

/-- What every state requires of the buffers and the retry count (10_state.md R48 items 1, 2, 4). -/
def Engine.Fits (c : Config) (e : Engine) : Prop :=
  e.rxbuf.length = c.rxCap ∧ e.txbuf.length = c.txCap ∧ e.receiveBitCount.toNat ≤ c.rxCap * 8 ∧
    e.transmitByteCount.toNat ≤ c.txCap ∧ e.retryCount.toNat < c.maxAttempts

/-- The engine stands in a state and meets what it requires. -/
structure Engine.InState (c : Config) (S : LinkState) (e : Engine) : Prop where
  state : e.state = S.code
  fits : e.Fits c
  drive : e.driveLevel = !drives S
  released : e.monitorMode = true → drives S = false
  quiet : e.monitorMode = true → e.transmitByteCount = 0
  cursor : CursorIn S e.transmitBitCursor e.transmitByteCount e.eom

/-- The engine stands in some state. -/
def Engine.InSomeState (c : Config) (e : Engine) : Prop := ∃ S, e.InState c S

/-- The conditions of the invariants on the cursor are those of the state. -/
theorem cursorIn_iff (S : LinkState) (cursor : BitVec 8) (count : BitVec 5) (eom : Bool) :
    CursorIn S cursor count eom ↔
      (count = 0 → ¬ isTransmitting S.code) ∧ cursor.toNat ≤ count.toNat * 8 ∧ (S.code.toNat < 19 → cursor = 0) ∧
        (hasBitToSend S.code → cursor.toNat < count.toNat * 8) ∧
        (atByteEnd S.code → cursor.toNat % 8 = 0 ∧ (eom = true ↔ cursor.toNat = count.toNat * 8)) := by
  cases S
  case idle | rcvStartBit1 | rcvStartBit2 | rcvData1 | rcvData2 | rcvEom1 | rcvEom2 | rcvAck1 | rcvAck2 | rcvAckSent | rcvLineError =>
    simp [CursorIn, LinkState.code]
    bv_omega
  case xmitWait | xmitStartBit1 | xmitStartBit2 =>
    simp [CursorIn, LinkState.code]
    bv_omega
  case xmitData1 | xmitData2 | xmitAckWait | xmitAck2 =>
    simp [CursorIn, LinkState.code]
    bv_omega
  case xmitEom1 | xmitEom2 | xmitAck1 | xmitAckTest => simp [CursorIn, LinkState.code]

theorem SameOutsideAllocation.driveLevel {e e' : Engine} (h : SameOutsideAllocation e e') : e'.driveLevel = e.driveLevel :=
  (congrArg Engine.driveLevel h.eq :)

theorem SameOutsideAllocation.monitorMode {e e' : Engine} (h : SameOutsideAllocation e e') : e'.monitorMode = e.monitorMode :=
  (congrArg Engine.monitorMode h.eq :)

/-- An allocation run writes one byte of the transmit buffer and at most a frame of one byte. -/
theorem SameOutsideAllocation.fits {c : Config} {e e' : Engine} (h : SameOutsideAllocation e e') (hfits : e.Fits c)
    (htxCap : 1 ≤ c.txCap) (hattempts : 1 ≤ c.maxAttempts) : e'.Fits c := by
  obtain ⟨hrx, htx, hreceived, hframe, hretries⟩ := hfits
  have hrxbuf : e'.rxbuf = e.rxbuf := (congrArg Engine.rxbuf h.eq :)
  have hbits : e'.receiveBitCount = e.receiveBitCount := (congrArg Engine.receiveBitCount h.eq :)
  refine ⟨hrxbuf ▸ hrx, h.txbufLength.trans htx, hbits ▸ hreceived, ?_, ?_⟩
  · obtain hsame | hone := h.transmitByteCount
    · rwa [hsame]
    · rwa [hone]
  · obtain hsame | hzero := h.retryCount
    · rwa [hsame]
    · rwa [hzero]

section InvariantsByState

variable {c : Config} {e : Engine}

theorem Engine.InState.linkInv {S : LinkState} (h : e.InState c S) : e.LinkInv c := by
  obtain ⟨hrx, htx, hreceived, hframe, hretries⟩ := h.fits
  obtain ⟨hsending, hinFrame, hstart, hbit, hend⟩ := (cursorIn_iff ..).mp h.cursor
  have hdriving : e.driveLevel = false ↔ isDriving S.code := by
    rw [h.drive, Bool.not_eq_false', drives_iff_isDriving]
  rw [← h.state] at hsending hstart hbit hend hdriving
  refine ⟨h.state ▸ isLegal_code S, hrx, htx, hreceived, hframe, hsending, hinFrame, hstart, hbit, hend, hretries, hdriving,
    fun hm => ⟨?_, h.quiet hm⟩⟩
  rw [h.drive, h.released hm]
  rfl

theorem Engine.LinkInv.inState (h : e.LinkInv c) {S : LinkState} (hS : e.state = S.code) : e.InState c S := by
  have hdrive : drives S = true ↔ e.driveLevel = false := by rw [drives_iff_isDriving, ← hS, h.driving]
  refine ⟨hS, ⟨h.rxbufSize, h.txbufSize, h.received, h.frameFits, h.retries⟩, ?_, fun hm => ?_, fun hm => (h.monitor hm).2,
    (cursorIn_iff ..).mpr ?_⟩
  · grind
  · rw [Bool.eq_false_iff, ne_eq, hdrive, (h.monitor hm).1]
    decide
  · rw [← hS]
    exact ⟨h.frameWhileSending, h.cursorInFrame, h.cursorAtStart, h.bitToSend, h.byteEnd⟩

/-- The invariants of the link (10_state.md R48) are the requirements of the state the engine stands in. -/
theorem linkInv_iff_inSomeState : e.LinkInv c ↔ e.InSomeState c := by
  constructor
  · intro h
    obtain ⟨S, hS⟩ := exists_code_of_isLegal h.legal
    exact ⟨S, h.inState hS⟩
  · rintro ⟨S, h⟩
    exact h.linkInv

/-! ### The shared operations -/

variable {S : LinkState} {x : Inputs}

/-- The sampling of 46_host_interface.md R283 writes nothing a state speaks of. -/
theorem Engine.InState.observe (h : e.InState c S) : (observe x e).InState c S :=
  ⟨h.state, h.fits, h.drive, h.released, h.quiet, h.cursor⟩

/-- `ReturnToIdle` (42_receive.md R162) with the line released and the cursor at the start. -/
theorem returnToIdle_inSomeState (hfits : e.Fits c) (hdrive : e.driveLevel = true)
    (hquiet : e.monitorMode = true → e.transmitByteCount = 0) (hcursor : e.transmitBitCursor = 0) (events : List Event) :
    (returnToIdle e events).engine.InSomeState c :=
  ⟨.idle, rfl, hfits, hdrive, fun _ => rfl, hquiet, hcursor⟩

/-- `StartReception` (42_receive.md R161), from a state that leaves the line alone. -/
theorem startReception_inSomeState (hfits : e.Fits c) (hdrive : e.driveLevel = true)
    (hquiet : e.monitorMode = true → e.transmitByteCount = 0) (hcursor : e.transmitBitCursor = 0) :
    (goto .rcvStartBit1 (startReception x e)).InSomeState c := by
  obtain ⟨hrx, htx, -, hframe, hretries⟩ := hfits
  exact ⟨.rcvStartBit1, rfl, ⟨hrx, htx, Nat.zero_le _, hframe, hretries⟩, hdrive, fun _ => rfl, hquiet, hcursor⟩

/-- `EnterLineError` (42_receive.md R185): in monitor mode the line is left alone. -/
theorem enterLineError_inSomeState (hfits : e.Fits c) (hdrive : e.driveLevel = true)
    (hquiet : e.monitorMode = true → e.transmitByteCount = 0) (hcursor : e.transmitBitCursor = 0) :
    (enterLineError c x e).engine.InSomeState c := by
  unfold enterLineError
  split
  · exact returnToIdle_inSomeState hfits hdrive hquiet hcursor []
  next hm => exact ⟨.rcvLineError, rfl, hfits, rfl, fun hmonitor => absurd hmonitor hm, hquiet, hcursor⟩

theorem awaitFall_inSomeState (h : e.InState c S) (hdrive : e.driveLevel = true) (hcursor : e.transmitBitCursor = 0) :
    (awaitFall c x e).engine.InSomeState c := by
  unfold awaitFall
  split
  · exact returnToIdle_inSomeState h.fits hdrive h.quiet hcursor []
  · exact ⟨S, h⟩

/-- The end of a frame (44_arbitration.md R248) leaves the engine idle, with no frame or the next probe pending. -/
theorem finishTransmit_inSomeState (hw : c.WellFormed) (hfits : e.Fits c) (hdrive : e.driveLevel = true)
    (hmonitor : e.monitorMode = false) (ok : Bool) : (finishTransmit c ok e).engine.InSomeState c := by
  obtain ⟨-, ⟨htxCap, -⟩, ⟨hattempts, -⟩, -⟩ := hw
  obtain ⟨hrx, htx, hreceived, -, -⟩ := hfits
  obtain ⟨-, hengine, -⟩ | ⟨-, n, e₁, e₂, hstart, rfl, hengine, -⟩ := finishTransmit_cases c ok e
  · rw [hengine]
    exact ⟨.idle, rfl, ⟨hrx, htx, hreceived, Nat.zero_le _, hattempts⟩, hdrive, fun _ => rfl, fun _ => rfl, rfl⟩
  · have hsame := hstart.trans (probeLoop_same c n e₁)
    rw [hengine]
    refine ⟨.idle, rfl, hsame.fits ⟨hrx, htx, hreceived, Nat.zero_le _, hattempts⟩ htxCap hattempts, hsame.driveLevel.trans hdrive,
      fun _ => rfl, fun hm => ?_, ?_⟩
    · exact absurd ((hsame.monitorMode.trans hmonitor).symm.trans hm) Bool.false_ne_true
    · exact hsame.transmitBitCursor.elim id id

/-- `TransmitFailed` (44_arbitration.md R243) releases the line and leaves the engine idle, to retry or without the frame. -/
theorem transmitFailed_inSomeState (hw : c.WellFormed) (hfits : e.Fits c) (hmonitor : e.monitorMode = false) :
    (transmitFailed c e).engine.InSomeState c := by
  obtain ⟨hends, -⟩ | ⟨hretry, -, hlt⟩ := transmitFailed_cases c e
  · rw [hends]
    exact finishTransmit_inSomeState (e := { e with driveLevel := true }) hw hfits rfl hmonitor false
  · obtain ⟨hrx, htx, hreceived, hframe, -⟩ := hfits
    have hnext : (e.retryCount + 1).toNat < c.maxAttempts :=
      Nat.lt_of_le_of_lt ((BitVec.toNat_add ..).trans_le (Nat.mod_le ..)) hlt
    rw [hretry]
    exact ⟨.idle, rfl, ⟨hrx, htx, hreceived, hframe, hnext⟩, rfl, fun _ => rfl,
      fun hm => absurd (hmonitor.symm.trans hm) Bool.false_ne_true, rfl⟩

theorem Engine.InState.sending (h : e.InState c S) (ht : isTransmitting S.code) : e.transmitByteCount ≠ 0 :=
  fun hempty => ((cursorIn_iff ..).mp h.cursor).1 hempty ht

theorem Engine.InState.unmonitored (h : e.InState c S) (ht : isTransmitting S.code) : e.monitorMode = false :=
  Bool.eq_false_iff.mpr fun hm => h.sending ht (h.quiet hm)

theorem collisionAbort_inSomeState (hw : c.WellFormed) (h : e.InState c S) (ht : isTransmitting S.code) :
    (collisionAbort c e).engine.InSomeState c :=
  transmitFailed_inSomeState (e := driveLine true e) hw h.fits (h.unmonitored ht)

/-- Without monitor mode a state requires its level of the line and its place of the cursor. -/
theorem inSomeState_of_unmonitored (S : LinkState) (hstate : e.state = S.code) (hfits : e.Fits c) (hmonitor : e.monitorMode = false)
    (hdrive : e.driveLevel = !drives S) (hcursor : CursorIn S e.transmitBitCursor e.transmitByteCount e.eom) : e.InSomeState c :=
  have hnever : ∀ {P : Prop}, e.monitorMode = true → P := fun hm => absurd (hmonitor.symm.trans hm) Bool.false_ne_true
  ⟨S, hstate, hfits, hdrive, hnever, hnever, hcursor⟩

/-! ### The receive chain (spec/42_receive.md) -/

theorem handleIdle_inSomeState (h : e.InState c .idle) : (handleIdle c x e).engine.InSomeState c := by
  unfold handleIdle
  split
  · exact startReception_inSomeState h.fits h.drive h.quiet h.cursor
  · split
    next hpending =>
      obtain ⟨hsending, hmonitor⟩ := (framePending_iff e).mp (Bool.and_eq_true_iff.mp hpending).2
      exact inSomeState_of_unmonitored .xmitWait rfl h.fits hmonitor h.drive ⟨h.cursor, hsending⟩
    · exact ⟨.idle, h⟩

theorem handleRcvStartBit1_inSomeState (h : e.InState c .rcvStartBit1) : (handleRcvStartBit1 c x e).engine.InSomeState c := by
  unfold handleRcvStartBit1
  split
  · split
    · exact ⟨.rcvStartBit2, rfl, h.fits, h.drive, h.released, h.quiet, h.cursor⟩
    · exact returnToIdle_inSomeState h.fits h.drive h.quiet h.cursor []
  · exact ⟨_, h⟩

theorem handleRcvStartBit2_inSomeState (h : e.InState c .rcvStartBit2) : (handleRcvStartBit2 c x e).engine.InSomeState c := by
  unfold handleRcvStartBit2
  split
  · split
    · exact ⟨.rcvData1, rfl, h.fits, h.drive, h.released, h.quiet, h.cursor⟩
    · exact returnToIdle_inSomeState h.fits h.drive h.quiet h.cursor []
  · exact awaitFall_inSomeState h h.drive h.cursor

theorem storeRxBit_fits (b : Bool) (h : e.Fits c) : (storeRxBit c b e).Fits c := by
  obtain ⟨hrx, htx, hreceived, hframe, hretries⟩ := h
  have hlength : (storeRxBit c b e).rxbuf.length = e.rxbuf.length := by
    rw [storeRxBit_rxbuf]
    split
    · exact length_rxbufSet ..
    · rfl
  have hcount := storeRxBit_receiveBitCount_le c b e hreceived
  rw [storeRxBit_frame]
  exact ⟨hlength.trans hrx, htx, hcount, hframe, hretries⟩

theorem handleRcvData1_inSomeState (h : e.InState c .rcvData1) : (handleRcvData1 c x e).engine.InSomeState c := by
  unfold handleRcvData1
  split
  · have hfits := storeRxBit_fits (e := clearAckIfOutOfRange (elapsed x e) e) (decodedBit (elapsed x e)) h.fits
    dsimp only
    rw [storeRxBit_frame] at hfits ⊢
    exact ⟨.rcvData2, rfl, hfits, h.drive, h.released, h.quiet, h.cursor⟩
  · exact ⟨_, h⟩

theorem handleRcvData2_inSomeState (h : e.InState c .rcvData2) : (handleRcvData2 c x e).engine.InSomeState c := by
  unfold handleRcvData2
  split
  · split
    · split
      · exact ⟨.rcvEom1, rfl, h.fits, h.drive, h.released, h.quiet, h.cursor⟩
      · exact ⟨.rcvData1, rfl, h.fits, h.drive, h.released, h.quiet, h.cursor⟩
    · exact enterLineError_inSomeState h.fits h.drive h.quiet h.cursor
  · exact awaitFall_inSomeState h h.drive h.cursor

theorem handleRcvEom1_inSomeState (h : e.InState c .rcvEom1) : (handleRcvEom1 c x e).engine.InSomeState c := by
  unfold handleRcvEom1
  split
  · exact ⟨.rcvEom2, rfl, h.fits, h.drive, h.released, h.quiet, h.cursor⟩
  · exact ⟨_, h⟩

/-- An engine in monitor mode acknowledges nothing (42_receive.md R174). -/
theorem unmonitored_of_assertAck (h : assertAck e = true) : e.monitorMode = false := by
  rw [assertAck, Bool.and_eq_true, Bool.not_eq_true'] at h
  exact h.1

theorem handleRcvEom2_inSomeState (h : e.InState c .rcvEom2) : (handleRcvEom2 c x e).engine.InSomeState c := by
  unfold handleRcvEom2
  split
  · split
    · split
      next hack => exact inSomeState_of_unmonitored .rcvAckSent rfl h.fits (unmonitored_of_assertAck hack) rfl h.cursor
      · exact ⟨.rcvAck1, rfl, h.fits, h.drive, h.released, h.quiet, h.cursor⟩
    · exact enterLineError_inSomeState h.fits h.drive h.quiet h.cursor
  · exact awaitFall_inSomeState h h.drive h.cursor

theorem handleRcvAck1_inSomeState (h : e.InState c .rcvAck1) : (handleRcvAck1 c x e).engine.InSomeState c := by
  have hseen : (observeAck (elapsed x e) e).InState c .rcvAck1 := ⟨h.state, h.fits, h.drive, h.released, h.quiet, h.cursor⟩
  unfold handleRcvAck1
  split
  · dsimp only
    split
    · exact returnToIdle_inSomeState hseen.fits hseen.drive hseen.quiet hseen.cursor _
    · split
      · exact ⟨.rcvAck2, rfl, h.fits, h.drive, h.released, h.quiet, h.cursor⟩
      · exact returnToIdle_inSomeState hseen.fits hseen.drive hseen.quiet hseen.cursor []
  · exact ⟨_, h⟩

theorem handleRcvAck2_inSomeState (h : e.InState c .rcvAck2) : (handleRcvAck2 c x e).engine.InSomeState c := by
  unfold handleRcvAck2
  split
  · split
    · exact ⟨.rcvData1, rfl, h.fits, h.drive, h.released, h.quiet, h.cursor⟩
    · exact enterLineError_inSomeState h.fits h.drive h.quiet h.cursor
  · exact awaitFall_inSomeState h h.drive h.cursor

theorem handleRcvAckSent_inSomeState (h : e.InState c .rcvAckSent) : (handleRcvAckSent c x e).engine.InSomeState c := by
  unfold handleRcvAckSent
  split
  · dsimp only
    split
    · exact returnToIdle_inSomeState (e := driveLine true e) h.fits rfl h.quiet h.cursor _
    · exact ⟨.rcvAck2, rfl, h.fits, rfl, fun _ => rfl, h.quiet, h.cursor⟩
  · exact ⟨_, h⟩

theorem handleRcvLineError_inSomeState (h : e.InState c .rcvLineError) : (handleRcvLineError c x e).engine.InSomeState c := by
  unfold handleRcvLineError
  split
  · exact returnToIdle_inSomeState (e := driveLine true e) h.fits rfl h.quiet h.cursor []
  · exact ⟨_, h⟩

/-! ### The transmit chain (spec/43_transmit.md; 44_arbitration.md R242) -/

theorem handleXmitWait_inSomeState (h : e.InState c .xmitWait) : (handleXmitWait c x e).engine.InSomeState c := by
  obtain ⟨hstart, hsending⟩ := h.cursor
  unfold handleXmitWait
  split
  · exact startReception_inSomeState h.fits h.drive h.quiet hstart
  · split
    · exact ⟨.idle, rfl, h.fits, h.drive, h.released, h.quiet, hstart⟩
    · split
      · exact inSomeState_of_unmonitored .xmitStartBit1 rfl h.fits (h.unmonitored (by decide)) rfl ⟨rfl, hsending⟩
      · exact ⟨_, h⟩

/-- The first bit of a frame is a bit of the frame. -/
theorem zero_lt_frameBits {count : BitVec 5} (h : count ≠ 0) : (0 : BitVec 8).toNat < count.toNat * 8 := by
  bv_omega

theorem handleXmitStartBit1_inSomeState (hw : c.WellFormed) (h : e.InState c .xmitStartBit1) :
    (handleXmitStartBit1 c x e).engine.InSomeState c := by
  unfold handleXmitStartBit1
  split
  · exact collisionAbort_inSomeState hw h (by decide)
  · split
    · exact inSomeState_of_unmonitored .xmitStartBit2 rfl h.fits (h.unmonitored (by decide)) rfl h.cursor
    · exact ⟨_, h⟩

theorem handleXmitStartBit2_inSomeState (hw : c.WellFormed) (h : e.InState c .xmitStartBit2) :
    (handleXmitStartBit2 c x e).engine.InSomeState c := by
  obtain ⟨hstart, hsending⟩ := h.cursor
  unfold handleXmitStartBit2
  split
  · exact collisionAbort_inSomeState hw h (by decide)
  · split
    · refine inSomeState_of_unmonitored .xmitData1 rfl h.fits (h.unmonitored (by decide)) rfl ?_
      exact hstart ▸ zero_lt_frameBits hsending
    · exact ⟨_, h⟩

theorem handleXmitData1_inSomeState (hw : c.WellFormed) (h : e.InState c .xmitData1) :
    (handleXmitData1 c x e).engine.InSomeState c := by
  unfold handleXmitData1
  split
  · exact collisionAbort_inSomeState hw h (by decide)
  · split
    · exact inSomeState_of_unmonitored .xmitData2 rfl h.fits (h.unmonitored (by decide)) rfl h.cursor
    · exact ⟨_, h⟩

/-- The cursor does not wrap on its way through a frame (10_state.md R33). -/
theorem toNat_cursor_add_one {cursor : BitVec 8} {count : BitVec 5} (h : cursor.toNat < count.toNat * 8) :
    (cursor + 1).toNat = cursor.toNat + 1 := by
  bv_omega

theorem handleXmitData2_inSomeState (hw : c.WellFormed) (h : e.InState c .xmitData2) :
    (handleXmitData2 c x e).engine.InSomeState c := by
  have hbit : e.transmitBitCursor.toNat < e.transmitByteCount.toNat * 8 := h.cursor
  have hnext := toNat_cursor_add_one hbit
  have hmonitor : e.monitorMode = false := h.unmonitored (by decide)
  unfold handleXmitData2
  split
  · exact collisionAbort_inSomeState hw h (by decide)
  · split
    · dsimp only
      rw [hnext]
      split
      next hend =>
        refine inSomeState_of_unmonitored .xmitEom1 rfl h.fits hmonitor rfl ⟨h.sending (by decide), ?_, ?_, ?_⟩
        · exact hnext.trans_le hbit
        · exact (congrArg (· % 8) hnext).trans hend
        · change ((e.transmitBitCursor + 1).toNat / 8 == e.transmitByteCount.toNat) = true ↔
            (e.transmitBitCursor + 1).toNat = e.transmitByteCount.toNat * 8
          rw [beq_iff_eq, hnext]
          omega
      next hmid =>
        refine inSomeState_of_unmonitored .xmitData1 rfl h.fits hmonitor rfl ?_
        change (e.transmitBitCursor + 1).toNat < e.transmitByteCount.toNat * 8
        omega
    · exact ⟨_, h⟩

theorem handleXmitEom1_inSomeState (hw : c.WellFormed) (h : e.InState c .xmitEom1) :
    (handleXmitEom1 c x e).engine.InSomeState c := by
  unfold handleXmitEom1
  split
  · exact collisionAbort_inSomeState hw h (by decide)
  · split
    · exact inSomeState_of_unmonitored .xmitEom2 rfl h.fits (h.unmonitored (by decide)) rfl h.cursor
    · exact ⟨_, h⟩

theorem handleXmitEom2_inSomeState (hw : c.WellFormed) (h : e.InState c .xmitEom2) :
    (handleXmitEom2 c x e).engine.InSomeState c := by
  unfold handleXmitEom2
  split
  · exact collisionAbort_inSomeState hw h (by decide)
  · split
    · exact inSomeState_of_unmonitored .xmitAck1 rfl h.fits (h.unmonitored (by decide)) rfl h.cursor
    · exact ⟨_, h⟩

theorem handleXmitAck1_inSomeState (hw : c.WellFormed) (h : e.InState c .xmitAck1) :
    (handleXmitAck1 c x e).engine.InSomeState c := by
  unfold handleXmitAck1
  split
  · exact collisionAbort_inSomeState hw h (by decide)
  · split
    · exact inSomeState_of_unmonitored .xmitAckTest rfl h.fits (h.unmonitored (by decide)) rfl h.cursor
    · exact ⟨_, h⟩

theorem handleXmitAckTest_inSomeState (hw : c.WellFormed) (h : e.InState c .xmitAckTest) :
    (handleXmitAckTest c x e).engine.InSomeState c := by
  have hmonitor : e.monitorMode = false := h.unmonitored (by decide)
  obtain ⟨-, hinFrame, -, heom⟩ := h.cursor
  unfold handleXmitAckTest
  split
  · exact ⟨_, h⟩
  · split
    · exact transmitFailed_inSomeState hw h.fits hmonitor
    · split
      · exact finishTransmit_inSomeState (e := { e with wasLastTransmitter := true }) hw h.fits h.drive hmonitor true
      next hmore =>
        have hbit : e.transmitBitCursor.toNat < e.transmitByteCount.toNat * 8 :=
          Nat.lt_of_le_of_ne hinFrame fun hend => hmore (heom.mpr hend)
        split
        · exact inSomeState_of_unmonitored .xmitAckWait rfl h.fits hmonitor h.drive hbit
        · exact inSomeState_of_unmonitored .xmitAck2 rfl h.fits hmonitor h.drive hbit

theorem handleXmitAckWait_inSomeState (hw : c.WellFormed) (h : e.InState c .xmitAckWait) :
    (handleXmitAckWait c x e).engine.InSomeState c := by
  unfold handleXmitAckWait
  split
  · exact inSomeState_of_unmonitored .xmitAck2 rfl h.fits (h.unmonitored (by decide)) h.drive h.cursor
  · split
    · exact collisionAbort_inSomeState hw h (by decide)
    · exact ⟨_, h⟩

theorem handleXmitAck2_inSomeState (hw : c.WellFormed) (h : e.InState c .xmitAck2) :
    (handleXmitAck2 c x e).engine.InSomeState c := by
  unfold handleXmitAck2
  split
  · exact collisionAbort_inSomeState hw h (by decide)
  · split
    · exact inSomeState_of_unmonitored .xmitData1 rfl h.fits (h.unmonitored (by decide)) rfl h.cursor
    · exact ⟨_, h⟩

/-- Every handler, run in its state, leaves the engine in some state (10_state.md R48). -/
theorem handlerFor_inSomeState (hw : c.WellFormed) (h : e.InState c S) : (handlerFor S c x e).engine.InSomeState c := by
  cases S
  exacts [handleIdle_inSomeState h, handleRcvStartBit1_inSomeState h, handleRcvStartBit2_inSomeState h, handleRcvData1_inSomeState h,
    handleRcvData2_inSomeState h, handleRcvEom1_inSomeState h, handleRcvEom2_inSomeState h, handleRcvAck1_inSomeState h,
    handleRcvAck2_inSomeState h, handleRcvAckSent_inSomeState h, handleRcvLineError_inSomeState h, handleXmitWait_inSomeState h,
    handleXmitStartBit1_inSomeState hw h, handleXmitStartBit2_inSomeState hw h, handleXmitData1_inSomeState hw h,
    handleXmitData2_inSomeState hw h, handleXmitEom1_inSomeState hw h, handleXmitEom2_inSomeState hw h,
    handleXmitAck1_inSomeState hw h, handleXmitAckTest_inSomeState hw h, handleXmitAckWait_inSomeState hw h,
    handleXmitAck2_inSomeState hw h]

/-! ### The host commands -/

/-- The allocation run CONFIGURE starts leaves the engine idle, with a probe or no frame pending. -/
theorem startAllocation_inSomeState (hw : c.WellFormed) (h : e.InState c .idle) (hmonitor : e.monitorMode = false) :
    (startAllocation c e).1.InSomeState c := by
  obtain ⟨-, ⟨htxCap, -⟩, ⟨hattempts, -⟩, -⟩ := hw
  have hsame := startAllocation_same c e
  refine inSomeState_of_unmonitored .idle (hsame.state.trans h.state) (hsame.fits h.fits htxCap hattempts)
    (hsame.monitorMode.trans hmonitor) (hsame.driveLevel.trans h.drive) ?_
  exact hsame.transmitBitCursor.elim (fun hkept => hkept.trans h.cursor) id

/-- A frame set to be sent from its start waits outside the transmit states. -/
theorem cursorIn_zero {S : LinkState} (h : ¬ isTransmitting S.code) (count : BitVec 5) (eom : Bool) : CursorIn S 0 count eom := by
  cases S
  case idle | rcvStartBit1 | rcvStartBit2 | rcvData1 | rcvData2 | rcvEom1 | rcvEom2 | rcvAck1 | rcvAck2 | rcvAckSent | rcvLineError =>
    rfl
  all_goals exact absurd (by decide) h

theorem enqueued_fits {payload : List Byte} (h : e.Fits c) (hattempts : 1 ≤ c.maxAttempts) (hlength : payload.length + 1 ≤ c.txCap)
    (src dst : Addr) : (enqueued src dst payload e).Fits c := by
  obtain ⟨hrx, htx, hreceived, -, -⟩ := h
  refine ⟨hrx, (length_writeBytes ..).trans htx, hreceived, ?_, hattempts⟩
  exact (BitVec.toNat_ofNat ..).trans_le ((Nat.mod_le ..).trans hlength)

theorem unmonitored_of_allocationEnabled (h : allocationEnabled c e = true) : e.monitorMode = false := by
  simp only [allocationEnabled, Bool.and_eq_true, Bool.not_eq_true'] at h
  exact h.1.2

/-- Every host command other than DISPATCH leaves the engine in some state. -/
theorem CommandOutcome.inSomeState {i : Instr} {s t : State} (hw : s.cfg.WellFormed) (h : CommandOutcome i s t)
    (hs : s.engine.InState s.cfg S) : t.engine.InSomeState s.cfg := by
  cases h with
  | unchanged engine => exact ⟨S, engine ▸ hs⟩
  | physical _ engine =>
    rw [engine]
    exact ⟨S, hs.state, hs.fits, hs.drive, hs.released, hs.quiet, hs.cursor⟩
  | enqueued _ hmonitor free hlength engine =>
    obtain ⟨-, -, ⟨hattempts, -⟩, -⟩ := hw
    rw [engine]
    exact inSomeState_of_unmonitored S hs.state (enqueued_fits hs.fits hattempts hlength _ _) hmonitor hs.drive
      (cursorIn_zero (fun ht => hs.sending ht free) _ _)
  | @configured _ _ _ _ _ _ _ _ e _ _ idle free config engine =>
    have hidle := hs.linkInv.inState idle
    have hconfigured : e.InState s.cfg .idle := by
      rw [config]
      exact ⟨idle, hidle.fits, hidle.drive, fun _ => rfl, fun _ => free, hidle.cursor⟩
    rw [engine]
    split
    next henabled => exact startAllocation_inSomeState hw hconfigured (unmonitored_of_allocationEnabled henabled)
    · exact ⟨.idle, hconfigured⟩

end InvariantsByState

end Sys2Proof.Machine
end

section
/-! PROOFS (10_state.md R48; 70_reset_and_hazards.md R331). The invariants of the machine: at reset, and over every step. -/

namespace Sys2Proof.Machine

open Sys2Proof

/-! ### Reset -/

theorem reset_linkInv {c : Config} (hw : c.WellFormed) : (Engine.reset c).LinkInv c := by
  obtain ⟨-, -, ⟨hattempts, -⟩, -⟩ := hw
  have hidle : (Engine.reset c).InState c .idle :=
    ⟨rfl, ⟨List.length_replicate, List.length_replicate, Nat.zero_le _, Nat.zero_le _, hattempts⟩, rfl, fun _ => rfl, fun _ => rfl, rfl⟩
  exact hidle.linkInv

theorem reset_allocInv (c : Config) : (Engine.reset c).AllocInv c := by
  have hunused : ∀ i, allocAt (Engine.reset c) i = AllocRecord.unused := fun i => by
    rw [allocAt, List.getD_eq_getElem?_getD]
    exact List.getElem?_getD_replicate_default_eq ..
  exact .of_inactive List.length_replicate (Nat.zero_le _) le_rfl (fun i _ => hunused i) BitVec.getLsbD_zero rfl rfl

/-! ### A step -/

section Steps

variable {s t : State}

/-- What a step leaves: the machine as it was, a dispatch's reply, or the outcome of another host command; the ports change only by a
dispatch, but for the command taken off. -/
theorem step_next_cases (h : step s = .next t) :
    t = s ∨ ∃ rest, (∃ S : LinkState, s.engine.state = S.code ∧ t = runHandler (handlerFor S) (s.withCommandBytes rest)) ∨
      ∃ i, t.ports = (s.withCommandBytes rest).ports ∧ CommandOutcome i (s.withCommandBytes rest) t := by
  obtain ⟨err, -, hnone⟩ | ⟨i, rest, -, hcommand, hrun⟩ := step_cases s
  · cases hnone.symm.trans h
    exact .inl rfl
  · exact .inr ⟨rest, (exec_command_cases hcommand (hrun.symm.trans h)).imp id fun houtcome => ⟨i, houtcome⟩⟩

theorem CommandOutcome.driveLevel {i : Instr} (h : CommandOutcome i s t) : t.engine.driveLevel = s.engine.driveLevel := by
  cases h with
  | unchanged engine => rw [engine]
  | physical _ engine => rw [engine]
  | enqueued _ _ _ _ engine => rw [engine, enqueued_driveLevel]
  | @configured _ _ _ _ _ _ _ _ e _ _ _ _ config engine =>
    have hconfigured : e.driveLevel = s.engine.driveLevel := by
      rw [config]
      rfl
    rw [engine]
    split
    · exact (startAllocation_same _ _).driveLevel.trans hconfigured
    · exact hconfigured

theorem runHandler_inv {S : LinkState} (h : s.Inv) (hS : s.engine.state = S.code) : (runHandler (handlerFor S) s).Inv where
  config := h.config
  link := linkInv_iff_inSomeState.mpr (handlerFor_inSomeState h.config (h.link.inState hS).observe)
  alloc := (handlerFor_handled s.cfg s.inputs s.observed S).allocInv h.config (allocInv_of_allocation_eq h.alloc rfl)
  drive := rfl

theorem CommandOutcome.inv {i : Instr} (h : CommandOutcome i s t) (hs : s.Inv) (hcfg : t.cfg = s.cfg)
    (hdrive : t.ports.drive = s.ports.drive) : t.Inv := by
  obtain ⟨S, hS⟩ := linkInv_iff_inSomeState.mp hs.link
  refine ⟨hcfg ▸ hs.config, ?_, ?_, ?_⟩
  · rw [hcfg]
    exact linkInv_iff_inSomeState.mpr (h.inSomeState hs.config hS)
  · rw [hcfg]
    exact h.allocInv hs.alloc
  · rw [hdrive, hs.drive, h.driveLevel]

theorem withCommandBytes_inv (h : s.Inv) (bytes : List Byte) : (s.withCommandBytes bytes).Inv :=
  ⟨h.config, h.link, h.alloc, h.drive⟩

theorem step_inv (h : s.Inv) (hstep : step s = .next t) : t.Inv := by
  have hcfg : t.cfg = s.cfg := stepNeverWritesTheParameters s t hstep
  obtain rfl | ⟨rest, ⟨S, hS, rfl⟩ | ⟨i, hports, houtcome⟩⟩ := step_next_cases hstep
  · exact h
  · exact runHandler_inv (withCommandBytes_inv h rest) hS
  · exact houtcome.inv (withCommandBytes_inv h rest) hcfg (congrArg Ports.drive hports)

end Steps

end Sys2Proof.Machine

namespace Sys2Proof

open Sys2Proof.Machine

/-- Settles O13: the engine right after reset is idle with a released line, and its allocator is at rest. -/
theorem resetMeetsTheInvariants : Obligations.ResetMeetsTheInvariants :=
  fun c hw => ⟨hw, reset_linkInv hw, reset_allocInv c, rfl⟩

/-- Settles O14: by the outcomes of a step; a handler is run in its own state, which says what it finds. -/
theorem stepKeepsTheInvariants : Obligations.StepKeepsTheInvariants :=
  fun _ _ h hstep => step_inv h hstep

/-- Settles O18: a handler does not leave monitor mode, where the invariants it keeps release the line; no other command drives the
line port. -/
theorem monitorModeNeverDrivesTheLine : Obligations.MonitorModeNeverDrivesTheLine := by
  intro s t h hmonitor hstep
  have hinv := step_inv h hstep
  have hreleased : s.ports.drive = true := h.drive.trans (h.link.monitor hmonitor).1
  obtain rfl | ⟨rest, ⟨S, hS, rfl⟩ | ⟨i, hports, -⟩⟩ := step_next_cases hstep
  · exact hreleased
  · have hkept : (runHandler (handlerFor S) (s.withCommandBytes rest)).engine.monitorMode = true :=
      (handlerFor_untouched S _ _ _).monitorMode.trans hmonitor
    rw [hinv.drive]
    exact (hinv.link.monitor hkept).1
  · exact (congrArg Ports.drive hports).trans hreleased

end Sys2Proof
end

section
/-! PROOFS (20_memory.md R63; 41_frame_buffers.md R143, R146). A byte sent bit by bit: what `TxBit` reads at a place of a buffer, what
`StoreRxBit` leaves in each bit, and the byte a receiver has rebuilt after each of the eight bits. -/

namespace Sys2Proof.Machine

open Sys2Proof

/-! ### One bit -/

/-- `TxBit()` reads the bits of byte `k` from the most significant on. -/
theorem txBit_of_cursor {e : Engine} {k j : Nat} {b : Byte} (hj : j < 8) (hbyte : e.txbuf[k]? = some b)
    (hcursor : e.transmitBitCursor.toNat = 8 * k + j) : txBit e = b.getLsbD (7 - j) := by
  have hplace : (8 * k + j) / 8 = k := by omega
  have hbit : (8 * k + j) % 8 = j := by omega
  rw [txBit, hcursor, hplace, hbit, byteAt, List.getD_eq_getElem?_getD, hbyte, Option.getD_some]

section OneStoredBit

variable {c : Config} {e : Engine} (b : Bool)

/-- A bit stored within the buffer changes the bit it is stored in and no other. -/
theorem getLsbD_byteAt_storeRxBit (hsize : e.rxbuf.length = c.rxCap) (hroom : e.receiveBitCount.toNat < c.rxCap * 8) (i : Nat)
    {j : Nat} (hj : j < 8) :
    (byteAt (storeRxBit c b e).rxbuf i).getLsbD j =
      if i = e.receiveBitCount.toNat / 8 ∧ j = 7 - e.receiveBitCount.toNat % 8 then b else (byteAt e.rxbuf i).getLsbD j := by
  have hplace : e.receiveBitCount.toNat / 8 < e.rxbuf.length := by omega
  rw [storeRxBit_rxbuf, if_pos hroom, byteAt_rxbufSet _ _ _ _ _ hplace]
  by_cases hi : i = e.receiveBitCount.toNat / 8
  · rw [if_pos hi, getLsbD_setBit _ _ _ _ (by omega) hj, hi]
    simp
  · rw [if_neg hi, if_neg (hi ·.1)]

theorem length_storeRxBit_rxbuf : (storeRxBit c b e).rxbuf.length = e.rxbuf.length := by
  rw [storeRxBit_rxbuf]
  split
  · exact length_rxbufSet ..
  · rfl

/-- The count of a receiver whose buffer has room goes up by one; `RX_CAP` at most 31 keeps it within 8 bits (10_state.md R21). -/
theorem storeRxBit_receiveBitCount_toNat (hcap : c.rxCap ≤ 31) (hroom : e.receiveBitCount.toNat < c.rxCap * 8) :
    (storeRxBit c b e).receiveBitCount.toNat = e.receiveBitCount.toNat + 1 := by
  rw [storeRxBit_receiveBitCount, if_pos hroom]
  have hfits : e.receiveBitCount.toNat + 1 < 2 ^ 8 := by omega
  exact BitVec.toNat_add_of_lt hfits

end OneStoredBit

/-! ### The eight bits of a byte -/

/-- A receiver that has stored the `m` most significant bits of the byte `b` at place `k` of its buffer. -/
structure Engine.HasStored (c : Config) (k : Nat) (b : Byte) (m : Nat) (r : Engine) : Prop where
  size : r.rxbuf.length = c.rxCap
  count : r.receiveBitCount.toNat = 8 * k + m
  stored : ∀ j, j < 8 → 8 ≤ m + j → (byteAt r.rxbuf k).getLsbD j = b.getLsbD j

section EightBits

variable {c : Config} {k m : Nat} {b : Byte} {r : Engine}

theorem Engine.HasStored.next (h : r.HasStored c k b m) (hcap : c.rxCap ≤ 31) (hk : k < c.rxCap) (hm : m < 8) :
    (storeRxBit c (b.getLsbD (7 - m)) r).HasStored c k b (m + 1) := by
  have hcount := h.count
  have hroom : r.receiveBitCount.toNat < c.rxCap * 8 := by omega
  refine ⟨(length_storeRxBit_rxbuf _).trans h.size, ?_, fun j hj hm' => ?_⟩
  · rw [storeRxBit_receiveBitCount_toNat _ hcap hroom, hcount, Nat.add_assoc]
  · rw [getLsbD_byteAt_storeRxBit _ h.size hroom k hj]
    split
    next hnew =>
      have hj' : j = 7 - m := by omega
      rw [hj']
    next hold => exact h.stored j hj (by omega)

/-- The receiver of the first `m` bits the sender's cursor reads from its byte `k`. -/
theorem hasStored_foldl_txBit {sender : Engine} (h : r.HasStored c k b 0) (hcap : c.rxCap ≤ 31) (hk : k < c.rxCap)
    (hbyte : sender.txbuf[k]? = some b) (hm : m ≤ 8) :
    ((List.range m).foldl
      (fun r j => storeRxBit c (txBit { sender with transmitBitCursor := BitVec.ofNat 8 (8 * k + j) }) r) r).HasStored c k b m := by
  induction m with
  | zero => exact h
  | succ m ih =>
    have hcursor : (BitVec.ofNat 8 (8 * k + m)).toNat = 8 * k + m := by
      rw [BitVec.toNat_ofNat]
      omega
    rw [List.range_succ, List.foldl_append, List.foldl_cons, List.foldl_nil,
      txBit_of_cursor (e := { sender with transmitBitCursor := BitVec.ofNat 8 (8 * k + m) }) hm hbyte hcursor]
    exact (ih (Nat.le_of_succ_le hm)).next hcap hk hm

/-- After eight bits the whole byte stands there. -/
theorem Engine.HasStored.byte (h : r.HasStored c k b 8) (hk : k < c.rxCap) : r.rxbuf[k]? = some b := by
  have hlt : k < r.rxbuf.length := h.size ▸ hk
  have hbyte : byteAt r.rxbuf k = b := BitVec.eq_of_getLsbD_eq fun j hj => h.stored j hj (Nat.le_add_right ..)
  rw [List.getElem?_eq_getElem hlt, ← hbyte, byteAt, List.getD_eq_getElem _ _ hlt]

end EightBits

end Sys2Proof.Machine

namespace Sys2Proof

open Sys2Proof.Machine

/-- Settles O26: by induction on the bits, after `m` of them the receiver holds the `m` most significant bits of the byte. -/
theorem aByteSentBitByBitArrivesUnchanged : Obligations.AByteSentBitByBitArrivesUnchanged := by
  intro c sender receiver k b hcap hsize hk hbyte hcount
  have hstart : receiver.HasStored c k b 0 := by
    refine ⟨hsize, ?_, fun j hj hnone => by omega⟩
    rw [hcount, BitVec.toNat_ofNat]
    omega
  exact (hasStored_foldl_txBit hstart hcap hk hbyte le_rfl).byte hk

end Sys2Proof
end

section
/-! PROOFS (20_memory.md R76; 10_state.md R28, R29). The recorded times and the clock: a handler records no time but the reading it
samples, no other command records any, and the reading moves on only with a dispatch. -/

namespace Sys2Proof.Machine

open Sys2Proof

/-- No time the engine has recorded lies after `now`. -/
def Engine.TimesBy (now : Micros) (e : Engine) : Prop :=
  e.lastStateChangeTime ≤ now ∧ e.bitStartTime ≤ now ∧ e.releaseTime ≤ now

theorem timesPast_iff (s : State) : TimesPast s ↔ s.engine.TimesBy s.ports.clock := Iff.rfl

/-! ### The shared operations -/

section SharedOperations

variable {c : Config} {x : Inputs} {e e' : Engine} {now now' : Micros}

theorem Engine.TimesBy.mono (h : e.TimesBy now) (hle : now ≤ now') : e.TimesBy now' := by
  obtain ⟨hedge, hstart, hrelease⟩ := h
  exact ⟨BitVec.le_trans hedge hle, BitVec.le_trans hstart hle, BitVec.le_trans hrelease hle⟩

theorem Engine.TimesBy.bitStarted (h : e.TimesBy now) : { e with bitStartTime := now }.TimesBy now := by
  obtain ⟨hedge, -, hrelease⟩ := h
  exact ⟨hedge, BitVec.le_refl now, hrelease⟩

theorem Engine.TimesBy.released (h : e.TimesBy now) : { e with releaseTime := now }.TimesBy now := by
  obtain ⟨hedge, hstart, -⟩ := h
  exact ⟨hedge, hstart, BitVec.le_refl now⟩

theorem Engine.TimesBy.observe (h : e.TimesBy x.now) : (observe x e).TimesBy x.now := by
  obtain ⟨hedge, hstart, hrelease⟩ := h
  refine ⟨?_, hstart, hrelease⟩
  rw [observe_lastStateChangeTime]
  split
  · exact BitVec.le_refl x.now
  · exact hedge

/-- A reply by cases records what its cases record. -/
theorem timesBy_ite {p : Prop} {_ : Decidable p} {r r' : Reply} (h : r.engine.TimesBy now) (h' : r'.engine.TimesBy now) :
    (if p then r else r').engine.TimesBy now := by
  split
  · exact h
  · exact h'

theorem SameOutsideAllocation.timesBy (hsame : SameOutsideAllocation e e') (h : e.TimesBy now) : e'.TimesBy now := by
  rw [hsame.eq]
  exact h

theorem Engine.TimesBy.storeRxBit (h : e.TimesBy now) (b : Bool) : (storeRxBit c b e).TimesBy now := by
  rw [storeRxBit_frame]
  exact h

theorem Engine.TimesBy.enterLineError (h : e.TimesBy x.now) : (enterLineError c x e).engine.TimesBy x.now :=
  timesBy_ite h h.bitStarted

theorem Engine.TimesBy.awaitFall (h : e.TimesBy now) : (awaitFall c x e).engine.TimesBy now :=
  timesBy_ite h h

theorem Engine.TimesBy.finishTransmit (h : e.TimesBy now) (ok : Bool) : (finishTransmit c ok e).engine.TimesBy now := by
  obtain ⟨-, hfinish, -⟩ | ⟨-, n, e₁, _, hemptied, rfl, hfinish, -⟩ := finishTransmit_cases c ok e <;> rw [hfinish]
  · exact h
  · exact (hemptied.trans (probeLoop_same c n e₁)).timesBy h

theorem Engine.TimesBy.transmitFailed (h : e.TimesBy now) : (transmitFailed c e).engine.TimesBy now := by
  obtain ⟨hends, -⟩ | ⟨hretry, -, -⟩ := transmitFailed_cases c e
  · rw [hends]
    exact Engine.TimesBy.finishTransmit (e := { e with driveLevel := true }) h false
  · rw [hretry]
    exact h

theorem Engine.TimesBy.collisionAbort (h : e.TimesBy now) : (collisionAbort c e).engine.TimesBy now :=
  Engine.TimesBy.transmitFailed (e := driveLine true e) h

theorem Engine.TimesBy.transmitSucceeded (h : e.TimesBy now) : (transmitSucceeded c e).engine.TimesBy now :=
  Engine.TimesBy.finishTransmit (e := { e with wasLastTransmitter := true }) h true

end SharedOperations

/-! ### The handlers, branch by branch: each branch keeps the times, or starts a bit or releases the line at the reading -/

section Handlers

variable (c : Config) {x : Inputs} {e : Engine} (h : e.TimesBy x.now)

include h

theorem handleIdle_timesBy : (handleIdle c x e).engine.TimesBy x.now :=
  timesBy_ite h.bitStarted (timesBy_ite h h)

theorem handleRcvStartBit1_timesBy : (handleRcvStartBit1 c x e).engine.TimesBy x.now :=
  timesBy_ite (timesBy_ite h h) h

theorem handleRcvStartBit2_timesBy : (handleRcvStartBit2 c x e).engine.TimesBy x.now :=
  timesBy_ite (timesBy_ite h.bitStarted h) h.awaitFall

theorem handleRcvData1_timesBy : (handleRcvData1 c x e).engine.TimesBy x.now :=
  timesBy_ite (Engine.TimesBy.storeRxBit (e := clearAckIfOutOfRange (elapsed x e) e) h _) h

theorem handleRcvData2_timesBy : (handleRcvData2 c x e).engine.TimesBy x.now :=
  timesBy_ite (timesBy_ite h.bitStarted h.enterLineError) h.awaitFall

theorem handleRcvEom1_timesBy : (handleRcvEom1 c x e).engine.TimesBy x.now :=
  timesBy_ite h h

theorem handleRcvEom2_timesBy : (handleRcvEom2 c x e).engine.TimesBy x.now :=
  timesBy_ite (timesBy_ite (timesBy_ite h.bitStarted h.bitStarted) h.enterLineError) h.awaitFall

theorem handleRcvAck1_timesBy : (handleRcvAck1 c x e).engine.TimesBy x.now :=
  timesBy_ite (timesBy_ite h (timesBy_ite h h)) h

theorem handleRcvAck2_timesBy : (handleRcvAck2 c x e).engine.TimesBy x.now :=
  timesBy_ite (timesBy_ite h.bitStarted h.enterLineError) h.awaitFall

theorem handleRcvAckSent_timesBy : (handleRcvAckSent c x e).engine.TimesBy x.now :=
  timesBy_ite (timesBy_ite h h) h

theorem handleRcvLineError_timesBy : (handleRcvLineError c x e).engine.TimesBy x.now :=
  timesBy_ite h h

theorem handleXmitWait_timesBy : (handleXmitWait c x e).engine.TimesBy x.now :=
  timesBy_ite h.bitStarted (timesBy_ite h (timesBy_ite h.bitStarted h))

theorem handleXmitStartBit1_timesBy : (handleXmitStartBit1 c x e).engine.TimesBy x.now :=
  timesBy_ite h.collisionAbort (timesBy_ite h.released h)

theorem handleXmitStartBit2_timesBy : (handleXmitStartBit2 c x e).engine.TimesBy x.now :=
  timesBy_ite h.collisionAbort (timesBy_ite h.bitStarted h)

theorem handleXmitData1_timesBy : (handleXmitData1 c x e).engine.TimesBy x.now :=
  timesBy_ite h.collisionAbort (timesBy_ite h.released h)

theorem handleXmitData2_timesBy : (handleXmitData2 c x e).engine.TimesBy x.now :=
  timesBy_ite h.collisionAbort (timesBy_ite (timesBy_ite h.bitStarted h.bitStarted) h)

theorem handleXmitEom1_timesBy : (handleXmitEom1 c x e).engine.TimesBy x.now :=
  timesBy_ite h.collisionAbort (timesBy_ite h.released h)

theorem handleXmitEom2_timesBy : (handleXmitEom2 c x e).engine.TimesBy x.now :=
  timesBy_ite h.collisionAbort (timesBy_ite h.bitStarted h)

theorem handleXmitAck1_timesBy : (handleXmitAck1 c x e).engine.TimesBy x.now :=
  timesBy_ite h.collisionAbort (timesBy_ite h h)

theorem handleXmitAckTest_timesBy : (handleXmitAckTest c x e).engine.TimesBy x.now :=
  timesBy_ite h (timesBy_ite h.transmitFailed (timesBy_ite h.transmitSucceeded (timesBy_ite h h)))

theorem handleXmitAckWait_timesBy : (handleXmitAckWait c x e).engine.TimesBy x.now :=
  timesBy_ite h (timesBy_ite h.collisionAbort h)

theorem handleXmitAck2_timesBy : (handleXmitAck2 c x e).engine.TimesBy x.now :=
  timesBy_ite h.collisionAbort (timesBy_ite h.bitStarted h)

theorem handlerFor_timesBy (S : LinkState) : (handlerFor S c x e).engine.TimesBy x.now := by
  cases S
  exacts [handleIdle_timesBy c h, handleRcvStartBit1_timesBy c h, handleRcvStartBit2_timesBy c h, handleRcvData1_timesBy c h,
    handleRcvData2_timesBy c h, handleRcvEom1_timesBy c h, handleRcvEom2_timesBy c h, handleRcvAck1_timesBy c h, handleRcvAck2_timesBy c h,
    handleRcvAckSent_timesBy c h, handleRcvLineError_timesBy c h, handleXmitWait_timesBy c h, handleXmitStartBit1_timesBy c h,
    handleXmitStartBit2_timesBy c h, handleXmitData1_timesBy c h, handleXmitData2_timesBy c h, handleXmitEom1_timesBy c h,
    handleXmitEom2_timesBy c h, handleXmitAck1_timesBy c h, handleXmitAckTest_timesBy c h, handleXmitAckWait_timesBy c h,
    handleXmitAck2_timesBy c h]

end Handlers

/-! ### A dispatch and the other commands -/

/-- The reading a dispatch takes is not before the last, and the readings after it still never decrease. -/
theorem clockMonotone_samplePorts {p : Ports} (h : ClockMonotone p) :
    p.clock ≤ (samplePorts p).clock ∧ ClockMonotone (samplePorts p) := by
  rw [ClockMonotone] at h
  cases hupcoming : p.upcoming with
  | nil =>
    have hkept : samplePorts p = p := by rw [samplePorts, hupcoming]
    rw [hkept]
    exact ⟨BitVec.le_refl p.clock, h⟩
  | cons r rest =>
    have htaken : samplePorts p = { p with line := r.line, clock := r.now, upcoming := rest } := by rw [samplePorts, hupcoming]
    rw [hupcoming, List.map_cons, List.pairwise_cons] at h
    obtain ⟨hnotBefore, hlater⟩ := h
    rw [htaken]
    exact ⟨hnotBefore r.now List.mem_cons_self, hlater⟩

theorem runHandler_timesPast {s : State} (hclock : ClockMonotone s.ports) (h : TimesPast s) (S : LinkState) :
    TimesPast (runHandler (handlerFor S) s) := by
  have hsampled : s.engine.TimesBy s.inputs.now := Engine.TimesBy.mono h (clockMonotone_samplePorts hclock).1
  exact handlerFor_timesBy s.cfg hsampled.observe S

theorem CommandOutcome.timesBy {i : Instr} {s t : State} {now : Micros} (h : CommandOutcome i s t) (hs : s.engine.TimesBy now) :
    t.engine.TimesBy now := by
  cases h with
  | unchanged engine => rwa [engine]
  | physical _ engine =>
    rw [engine]
    exact hs
  | enqueued _ _ _ _ engine =>
    rw [engine]
    exact hs
  | @configured _ _ _ _ _ _ _ _ e _ _ _ _ config engine =>
    have hconfigured : e.TimesBy now := by
      rw [config]
      exact hs
    rw [engine]
    split
    · exact (startAllocation_same _ _).timesBy hconfigured
    · exact hconfigured

end Sys2Proof.Machine

namespace Sys2Proof

open Sys2Proof.Machine

/-- Settles O19: by the outcomes of a step; a dispatch takes a reading no earlier than the last and records no other time, every other
command leaves the readings and the times. -/
theorem recordedTimesNeverPassTheClock : Obligations.RecordedTimesNeverPassTheClock := by
  intro s t hclock hpast hstep
  obtain rfl | ⟨rest, ⟨S, -, rfl⟩ | ⟨i, hports, houtcome⟩⟩ := step_next_cases hstep
  · exact ⟨hclock, hpast⟩
  · exact ⟨(clockMonotone_samplePorts (p := (s.withCommandBytes rest).ports) hclock).2,
      runHandler_timesPast (s := s.withCommandBytes rest) hclock hpast S⟩
  · rw [timesPast_iff, hports]
    exact ⟨hclock, houtcome.timesBy hpast⟩

end Sys2Proof
end

section
/-! PROOFS (30_encoding.md R97 to R101). The word of each command as the word with those fields, and which words R102 lists. -/

namespace Sys2Proof

open Sys2Proof.Machine

/-! ### The word of a command, field by field -/

theorem bit_eq_iff (w : Word) (i : Nat) (b : Bool) : bit w i = b ↔ w.toNat / 2 ^ i % 2 = b.toNat := by
  rw [bit_eq]
  cases b <;> simp

theorem command_ofNat_eq_iff {n : Nat} (hn : n < 2 ^ 32) (payload payload' : List Byte) (w : Word) :
    Encoding.command (BitVec.ofNat 32 n) payload = .command w payload' ↔ payload' = payload ∧ w.toNat = n := by
  rw [Encoding.command.injEq, BitVec.toNat_eq, BitVec.toNat_ofNat, Nat.mod_eq_of_lt hn, and_comm, eq_comm, eq_comm (a := n)]

theorem encode_configure_eq_iff (laddr : Addr) (prom mon : Bool) (ntypes : BitVec 3) (t0 t1 t2 t3 : DevType) (w : Word)
    (payload : List Byte) :
    encode (.configure laddr prom mon ntypes t0 t1 t2 t3) = .command w payload ↔
      payload = [] ∧ (opcode w).toNat = 1 ∧ bits w 23 5 = 0 ∧ bits w 6 2 = 0 ∧
        bits w 0 4 = laddr ∧ bit w 4 = prom ∧ bit w 5 = mon ∧ bits w 8 3 = ntypes ∧
        bits w 11 3 = t0 ∧ bits w 14 3 = t1 ∧ bits w 17 3 = t2 ∧ bits w 20 3 = t3 := by
  have := laddr.isLt
  have := prom.toNat_lt
  have := mon.toNat_lt
  have := ntypes.isLt
  have := t0.isLt
  have := t1.isLt
  have := t2.isLt
  have := t3.isLt
  rw [encode, command_ofNat_eq_iff (by omega)]
  simp only [bits_eq_iff, bit_eq_iff, opcode_toNat, BitVec.ofNat_eq_ofNat, BitVec.toNat_zero]
  refine and_congr_right fun _ => ?_
  omega

theorem encode_setPhys_eq_iff (phys : BitVec 16) (w : Word) (payload : List Byte) :
    encode (.setPhys phys) = .command w payload ↔
      payload = [] ∧ (opcode w).toNat = 2 ∧ bits w 16 12 = 0 ∧ bits w 0 16 = phys := by
  have := phys.isLt
  rw [encode, command_ofNat_eq_iff (by omega)]
  simp only [bits_eq_iff, opcode_toNat, BitVec.ofNat_eq_ofNat, BitVec.toNat_zero]
  refine and_congr_right fun _ => ?_
  omega

theorem encode_txEnqueue_eq_iff (srcSelf : Bool) (src dst : Addr) {payload : List Byte} (hlen : payload.length ≤ 31) (w : Word)
    (payload' : List Byte) :
    encode (.txEnqueue srcSelf src dst payload) = .command w payload' ↔
      payload' = payload ∧ (opcode w).toNat = 3 ∧ bits w 14 14 = 0 ∧ bit w 13 = srcSelf ∧
        (bits w 8 5).toNat = payload.length ∧ bits w 4 4 = src ∧ bits w 0 4 = dst := by
  have := srcSelf.toNat_lt
  have := src.isLt
  have := dst.isLt
  rw [encode, command_ofNat_eq_iff (by omega)]
  simp only [bits_eq_iff, bit_eq_iff, bits_toNat, opcode_toNat, BitVec.ofNat_eq_ofNat, BitVec.toNat_zero]
  refine and_congr_right fun _ => ?_
  omega

theorem encode_dispatch_eq_iff (hint : Bool) (w : Word) (payload : List Byte) :
    encode (.dispatch hint) = .command w payload ↔
      payload = [] ∧ (opcode w).toNat = 4 ∧ bits w 1 27 = 0 ∧ bit w 0 = hint := by
  have := hint.toNat_lt
  rw [encode, command_ofNat_eq_iff (by omega)]
  simp only [bits_eq_iff, bit_eq_iff, opcode_toNat, BitVec.ofNat_eq_ofNat, BitVec.toNat_zero]
  refine and_congr_right fun _ => ?_
  omega

theorem encode_readStatus_eq_iff (sel : Bool) (w : Word) (payload : List Byte) :
    encode (.readStatus sel) = .command w payload ↔
      payload = [] ∧ (opcode w).toNat = 5 ∧ bits w 1 27 = 0 ∧ bit w 0 = sel := by
  have := sel.toNat_lt
  rw [encode, command_ofNat_eq_iff (by omega)]
  simp only [bits_eq_iff, bit_eq_iff, opcode_toNat, BitVec.ofNat_eq_ofNat, BitVec.toNat_zero]
  refine and_congr_right fun _ => ?_
  omega

/-! ### The words R102 accepts, by opcode -/

section AcceptedWords

variable (maxTypes : Nat) (w : Word)

theorem encodingError_eq_none_iff_of_configure (h : (opcode w).toNat = 1) :
    encodingError maxTypes w = none ↔
      (bits w 23 5 = 0 ∧ bits w 6 2 = 0) ∧
        configureOk maxTypes (bits w 8 3) (bits w 11 3) (bits w 14 3) (bits w 17 3) (bits w 20 3) = true := by
  rw [encodingError_configure maxTypes w h]
  split
  next hset => exact iff_of_false nofun fun ⟨⟨hhigh, hlow⟩, _⟩ => hset.elim (· hhigh) (· hlow)
  next hset =>
    obtain ⟨hhigh, hlow⟩ := not_or.mp hset
    simp [not_not.mp hhigh, not_not.mp hlow]

theorem encodingError_eq_none_iff_of_setPhys (h : (opcode w).toNat = 2) :
    encodingError maxTypes w = none ↔ bits w 16 12 = 0 := by
  simp [encodingError_setPhys maxTypes w h]

theorem encodingError_eq_none_iff_of_txEnqueue (h : (opcode w).toNat = 3) :
    encodingError maxTypes w = none ↔ bits w 14 14 = 0 ∧ txEnqueueOk (bit w 13) (bits w 4 4) = true := by
  rw [encodingError_txEnqueue maxTypes w h]
  split <;> simp_all

theorem encodingError_eq_none_iff_of_dispatch (h : (opcode w).toNat = 4) :
    encodingError maxTypes w = none ↔ bits w 1 27 = 0 := by
  simp [encodingError_dispatch maxTypes w h]

theorem encodingError_eq_none_iff_of_readStatus (h : (opcode w).toNat = 5) :
    encodingError maxTypes w = none ↔ bits w 1 27 = 0 := by
  simp [encodingError_readStatus maxTypes w h]

theorem encodingError_of_reservedOpcode (h : (opcode w).toNat = 0 ∨ 6 ≤ (opcode w).toNat) :
    encodingError maxTypes w = some .opcode := by
  unfold encodingError
  split
  case h_6 => rfl
  all_goals omega

end AcceptedWords

/-! ### The words R102 lists -/

theorem configureOk_eq_true_iff (maxTypes : Nat) (ntypes : BitVec 3) (t0 t1 t2 t3 : DevType) :
    configureOk maxTypes ntypes t0 t1 t2 t3 = true ↔
      ntypes.toNat ≤ maxTypes ∧ (0 < ntypes.toNat ∨ t0 = 0) ∧ (1 < ntypes.toNat ∨ t1 = 0) ∧ (2 < ntypes.toNat ∨ t2 = 0) ∧
        (3 < ntypes.toNat ∨ t3 = 0) := by
  simp only [configureOk, Bool.and_eq_true, Bool.or_eq_true, decide_eq_true_eq, beq_iff_eq, and_assoc]

theorem txEnqueueOk_eq_true_iff (srcSelf : Bool) (src : Addr) : txEnqueueOk srcSelf src = true ↔ (srcSelf = true → src = 0) := by
  cases srcSelf <;> simp [txEnqueueOk]

/-- The type fields by their number `i`, as R102 speaks of them. -/
theorem configureOk_bits_iff (maxTypes : Nat) (w : Word) :
    configureOk maxTypes (bits w 8 3) (bits w 11 3) (bits w 14 3) (bits w 17 3) (bits w 20 3) = true ↔
      ¬ (maxTypes < w.toNat / 2 ^ 8 % 8 ∨ ∃ i, i < 4 ∧ w.toNat / 2 ^ 8 % 8 ≤ i ∧ w.toNat / 2 ^ (11 + 3 * i) % 8 ≠ 0) := by
  rw [configureOk_eq_true_iff]
  simp only [Nat.exists_lt_succ_right, Nat.not_lt_zero, false_and, exists_false, false_or, bits_eq_iff, bits_toNat,
    BitVec.ofNat_eq_ofNat, BitVec.toNat_zero]
  omega

/-- The decoder's check of R102 refuses exactly the words R102 lists. -/
theorem encodingError_eq_none_iff (maxTypes : Nat) (w : Word) :
    encodingError maxTypes w = none ↔ ¬ ReservedEncoding maxTypes w.toNat := by
  unfold ReservedEncoding
  rw [← opcode_toNat]
  obtain h | h | h | h | h | h : (opcode w).toNat = 1 ∨ (opcode w).toNat = 2 ∨ (opcode w).toNat = 3 ∨ (opcode w).toNat = 4 ∨
      (opcode w).toNat = 5 ∨ ((opcode w).toNat = 0 ∨ 6 ≤ (opcode w).toNat) := by omega
  · rw [encodingError_eq_none_iff_of_configure _ _ h, configureOk_bits_iff]
    simp [h, bits_eq_iff, and_assoc]
  · rw [encodingError_eq_none_iff_of_setPhys _ _ h, bits_eq_iff]
    simp [h]
  · rw [encodingError_eq_none_iff_of_txEnqueue _ _ h, txEnqueueOk_eq_true_iff, bits_eq_iff, bits_eq_iff, bit_eq_iff]
    simp [h]
  · rw [encodingError_eq_none_iff_of_dispatch _ _ h, bits_eq_iff]
    simp [h]
  · rw [encodingError_eq_none_iff_of_readStatus _ _ h, bits_eq_iff]
    simp [h]
  · rw [encodingError_of_reservedOpcode _ _ h]
    exact iff_of_false nofun (not_not_intro (h.imp_right .inl))

end Sys2Proof
end

section
/-! PROOFS (30_encoding.md). Decoder and encoder are inverse to each other, on words with their payload, on state codes and on the bytes
of the command port; the rejected words; the handler a DISPATCH selects. -/

namespace Sys2Proof

open Sys2Proof.Machine

/-! ### The decoder of a word -/

section DecodedWords

variable {maxTypes : Nat} {w : Word} {payload : List Byte}

theorem decodeCommand_of_rejected {err : EncodingError} (h : encodingError maxTypes w = some err) :
    decodeCommand maxTypes w payload = .reservedOpcode w payload := by
  rw [decodeCommand, h]

theorem decodeCommand_of_reservedEncoding (h : ReservedEncoding maxTypes w.toNat) :
    decodeCommand maxTypes w payload = .reservedOpcode w payload := by
  obtain ⟨err, herr⟩ := Option.ne_none_iff_exists'.mp (mt (encodingError_eq_none_iff maxTypes w).mp (not_not_intro h))
  exact decodeCommand_of_rejected herr

theorem decodeCommand_of_accepted (h : encodingError maxTypes w = none) : decodeCommand maxTypes w payload = commandOf w payload := by
  rw [decodeCommand, h]

theorem opcode_of_accepted (h : encodingError maxTypes w = none) :
    (opcode w).toNat = 1 ∨ (opcode w).toNat = 2 ∨ (opcode w).toNat = 3 ∨ (opcode w).toNat = 4 ∨ (opcode w).toNat = 5 := by
  by_contra hop
  cases h.symm.trans (encodingError_of_reservedOpcode maxTypes w (by omega))

theorem payload_eq_nil (hlen : payload.length = payloadLength w) (hop : (opcode w).toNat ≠ 3) : payload = [] := by
  rw [payloadLength_eq, ← opcode_toNat, if_neg hop] at hlen
  exact List.length_eq_zero_iff.mp hlen

theorem commandOf_ne_reservedOpcode (h : encodingError maxTypes w = none) (w' : Word) (payload' : List Byte) :
    commandOf w payload ≠ .reservedOpcode w' payload' := by
  obtain hop | hop | hop | hop | hop := opcode_of_accepted h
  · simp [commandOf_configure _ _ hop]
  · simp [commandOf_setPhys _ _ hop]
  · simp [commandOf_txEnqueue _ _ hop]
  · simp [commandOf_dispatch _ _ hop]
  · simp [commandOf_readStatus _ _ hop]

/-- The fields R102 accepts are a well-formed command, and the word they were read from is the word of that command. -/
theorem commandOf_wf_encode (hlen : payload.length = payloadLength w) (h : encodingError maxTypes w = none) :
    (commandOf w payload).wf maxTypes = true ∧ encode (commandOf w payload) = .command w payload := by
  obtain hop | hop | hop | hop | hop := opcode_of_accepted h
  · obtain ⟨⟨hhigh, hlow⟩, hok⟩ := (encodingError_eq_none_iff_of_configure _ _ hop).mp h
    rw [commandOf_configure _ _ hop, encode_configure_eq_iff]
    exact ⟨hok, payload_eq_nil hlen (by omega), hop, hhigh, hlow, rfl, rfl, rfl, rfl, rfl, rfl, rfl, rfl⟩
  · have hzero := (encodingError_eq_none_iff_of_setPhys _ _ hop).mp h
    rw [commandOf_setPhys _ _ hop, encode_setPhys_eq_iff]
    exact ⟨rfl, payload_eq_nil hlen (by omega), hop, hzero, rfl⟩
  · obtain ⟨hzero, hok⟩ := (encodingError_eq_none_iff_of_txEnqueue _ _ hop).mp h
    have hcount : (bits w 8 5).toNat = payload.length := by rw [hlen, payloadLength_eq, ← opcode_toNat, if_pos hop, bits_toNat]
    have hfits : payload.length ≤ 31 := by omega
    rw [commandOf_txEnqueue _ _ hop, encode_txEnqueue_eq_iff _ _ _ hfits, Instr.wf, hok, decide_eq_true hfits]
    exact ⟨rfl, rfl, hop, hzero, rfl, hcount, rfl, rfl⟩
  · have hzero := (encodingError_eq_none_iff_of_dispatch _ _ hop).mp h
    rw [commandOf_dispatch _ _ hop, encode_dispatch_eq_iff]
    exact ⟨rfl, payload_eq_nil hlen (by omega), hop, hzero, rfl⟩
  · have hzero := (encodingError_eq_none_iff_of_readStatus _ _ hop).mp h
    rw [commandOf_readStatus _ _ hop, encode_readStatus_eq_iff]
    exact ⟨rfl, payload_eq_nil hlen (by omega), hop, hzero, rfl⟩

/-- A word with its payload is the encoding of the instruction read from it. -/
theorem decodeCommand_wf_encode (hlen : payload.length = payloadLength w) :
    (decodeCommand maxTypes w payload).wf maxTypes = true ∧ encode (decodeCommand maxTypes w payload) = .command w payload := by
  cases h : encodingError maxTypes w with
  | none =>
    rw [decodeCommand_of_accepted h]
    exact commandOf_wf_encode hlen h
  | some err =>
    rw [decodeCommand_of_rejected h]
    exact ⟨by simp [Instr.wf, h, hlen], rfl⟩

/-- A well-formed instruction with a word is read back from that word. -/
theorem decodeCommand_of_encode {i : Instr} (hwf : i.wf maxTypes = true) (h : encode i = .command w payload) :
    decodeCommand maxTypes w payload = i := by
  cases i with
  | configure laddr prom mon ntypes t0 t1 t2 t3 =>
    obtain ⟨-, hop, hhigh, hlow, rfl, rfl, rfl, rfl, rfl, rfl, rfl, rfl⟩ := (encode_configure_eq_iff ..).mp h
    rw [decodeCommand_of_accepted ((encodingError_eq_none_iff_of_configure _ _ hop).mpr ⟨⟨hhigh, hlow⟩, hwf⟩),
      commandOf_configure _ _ hop]
  | setPhys phys =>
    obtain ⟨-, hop, hzero, rfl⟩ := (encode_setPhys_eq_iff ..).mp h
    rw [decodeCommand_of_accepted ((encodingError_eq_none_iff_of_setPhys _ _ hop).mpr hzero), commandOf_setPhys _ _ hop]
  | txEnqueue srcSelf src dst sent =>
    obtain ⟨hok, hfits⟩ : txEnqueueOk srcSelf src = true ∧ sent.length ≤ 31 := by simpa [Instr.wf] using hwf
    obtain ⟨rfl, hop, hzero, rfl, -, rfl, rfl⟩ := (encode_txEnqueue_eq_iff _ _ _ hfits ..).mp h
    rw [decodeCommand_of_accepted ((encodingError_eq_none_iff_of_txEnqueue _ _ hop).mpr ⟨hzero, hok⟩), commandOf_txEnqueue _ _ hop]
  | dispatch hint =>
    obtain ⟨-, hop, hzero, rfl⟩ := (encode_dispatch_eq_iff ..).mp h
    rw [decodeCommand_of_accepted ((encodingError_eq_none_iff_of_dispatch _ _ hop).mpr hzero), commandOf_dispatch _ _ hop]
  | readStatus sel =>
    obtain ⟨-, hop, hzero, rfl⟩ := (encode_readStatus_eq_iff ..).mp h
    rw [decodeCommand_of_accepted ((encodingError_eq_none_iff_of_readStatus _ _ hop).mpr hzero), commandOf_readStatus _ _ hop]
  | reservedOpcode w' payload' =>
    cases h
    obtain ⟨hrejected, -⟩ : (encodingError maxTypes w).isSome = true ∧ _ := by simpa [Instr.wf] using hwf
    obtain ⟨err, herr⟩ := Option.isSome_iff_exists.mp hrejected
    exact decodeCommand_of_rejected herr
  | _ => cases h

end DecodedWords

/-! ### The decoder of a state code -/

theorem encode_handlerInstr (S : LinkState) : encode (handlerInstr S) = .state S.code := by cases S <;> rfl

theorem decodeState_code (S : LinkState) : decodeState S.code = handlerInstr S := by rw [decodeState, linkStateOf_code]

theorem decodeState_of_linkStateOf_eq_none {code : StateCode} (h : linkStateOf code = none) : decodeState code = .stReserved code := by
  rw [decodeState, h]

/-- A well-formed row that is no command is read back from its state code. -/
theorem decode_encode_of_not_isCommand {maxTypes : Nat} {i : Instr} (hwf : i.wf maxTypes = true) (hrow : i.isCommand = false) :
    decode maxTypes (encode i) = i := by
  obtain ⟨S, rfl⟩ | ⟨code, rfl⟩ := eq_row_of_not_isCommand hrow
  · rw [encode_handlerInstr]
    exact decodeState_code S
  · exact decodeState_of_linkStateOf_eq_none (Option.isNone_iff_eq_none.mp hwf)

/-! ### The bytes of the command port -/

/-- A well-formed command has a word, which tells the length of its payload (30_encoding.md R99). -/
theorem exists_word_of_isCommand {maxTypes : Nat} {i : Instr} (hwf : i.wf maxTypes = true) (hcommand : i.isCommand = true) :
    ∃ w payload, encode i = .command w payload ∧ payload.length = payloadLength w :=
  match i, hcommand with
  | .configure .., _ => ⟨_, _, rfl, (Laws.EncodingShape.configure _ _ _ _ _ _ _ _ maxTypes hwf).2⟩
  | .setPhys _, _ => ⟨_, _, rfl, (Laws.EncodingShape.setPhys _ maxTypes hwf).2⟩
  | .txEnqueue .., _ => ⟨_, _, rfl, (Laws.EncodingShape.txEnqueue _ _ _ _ maxTypes hwf).2⟩
  | .dispatch _, _ => ⟨_, _, rfl, (Laws.EncodingShape.dispatch _ maxTypes hwf).2⟩
  | .readStatus _, _ => ⟨_, _, rfl, (Laws.EncodingShape.readStatus _ maxTypes hwf).2⟩
  | .reservedOpcode .., _ => ⟨_, _, rfl, (Laws.EncodingShape.reservedOpcode _ _ maxTypes hwf).2⟩

theorem encodeBytes_of_encode {i : Instr} {w : Word} {payload : List Byte} (h : encode i = .command w payload) :
    encodeBytes i = bytesOfWord w ++ payload := by
  rw [encodeBytes, h]

/-- An instruction is read exactly from a word with the payload the word tells. -/
theorem decodeBytes_eq_ok_iff {maxTypes : Nat} {bytes rest : List Byte} {i : Instr} :
    decodeBytes maxTypes bytes = .ok (i, rest) ↔
      ∃ w payload, bytes = bytesOfWord w ++ payload ++ rest ∧ payload.length = payloadLength w ∧
        decodeCommand maxTypes w payload = i := by
  constructor
  · intro h
    obtain ⟨w, tail, rfl⟩ : ∃ w tail, bytes = bytesOfWord w ++ tail := by
      match bytes, h with
      | b0 :: b1 :: b2 :: b3 :: tail, _ => exact ⟨wordOfBytes b0 b1 b2 b3, tail, by rw [bytesOfWord_wordOfBytes]; rfl⟩
    rw [decodeBytes_bytesOfWord] at h
    split at h
    · cases h
    next hwhole =>
      cases h
      refine ⟨w, tail.take (payloadLength w), ?_, List.length_take_of_le (Nat.le_of_not_lt hwhole), rfl⟩
      rw [List.append_assoc, List.take_append_drop]
  · rintro ⟨w, payload, rfl, hlen, rfl⟩
    rw [List.append_assoc, decodeBytes_bytesOfWord, if_neg (by simp [hlen]), ← hlen, List.take_left, List.drop_left]

/-! ### Rejected words (R102) and the handler of a state code (R95) -/

theorem exec_reservedOpcode (w : Word) (payload : List Byte) (s : State) :
    exec (.reservedOpcode w payload) s = .next { s with response := some ⟨0x10, none, [], none⟩ } := rfl

theorem decodeCommand_ne_reservedOpcode {maxTypes : Nat} {w : Word} (h : ¬ ReservedEncoding maxTypes w.toNat) (w' : Word)
    (payload payload' : List Byte) : decodeCommand maxTypes w payload ≠ .reservedOpcode w' payload' := by
  have haccepted := (encodingError_eq_none_iff maxTypes w).mpr h
  rw [decodeCommand_of_accepted haccepted]
  exact commandOf_ne_reservedOpcode haccepted w' payload'

theorem step_of_decodeBytes {s : State} {i : Instr} {rest : List Byte}
    (h : decodeBytes s.cfg.maxDeviceTypes s.ports.command = .ok (i, rest)) : step s = exec i (s.withCommandBytes rest) := by
  rw [step, h]

/-- The 22 states, in the order of their codes (10_state.md R31). -/
def linkStates : List LinkState :=
  [.idle, .rcvStartBit1, .rcvStartBit2, .rcvData1, .rcvData2, .rcvEom1, .rcvEom2, .rcvAck1, .rcvAck2, .rcvAckSent, .rcvLineError,
    .xmitWait, .xmitStartBit1, .xmitStartBit2, .xmitData1, .xmitData2, .xmitEom1, .xmitEom2, .xmitAck1, .xmitAckTest, .xmitAckWait,
    .xmitAck2]

/-- The code of a state beside the row of its handler. -/
def handlerRow (S : LinkState) : StateCode × Instr := (S.code, handlerInstr S)

theorem exec_dispatch_eq_exec_handlerInstr {S : LinkState} {s : State} (h : s.engine.state = S.code) (hint : Bool) :
    exec (.dispatch hint) s = exec (handlerInstr S) s :=
  (exec_dispatch_code S hint s h).trans (exec_handlerInstr S s).symm

/-! ### The obligations -/

/-- Settles O1: a closed fact about thirteen words, evaluated. -/
theorem encodingTableWordsDecode : Obligations.EncodingTableWordsDecode := by
  unfold Obligations.EncodingTableWordsDecode
  decide

/-- Settles O2: a command is read back from its word, a handler row or a reserved code from its state code. -/
theorem decodeOfEncodeIsTheInstruction : Obligations.DecodeOfEncodeIsTheInstruction := by
  intro maxTypes i hwf
  cases hcommand : i.isCommand with
  | true =>
    obtain ⟨w, payload, henc, -⟩ := exists_word_of_isCommand hwf hcommand
    rw [henc]
    exact decodeCommand_of_encode hwf henc
  | false => exact decode_encode_of_not_isCommand hwf hcommand

/-- Settles O3: the command's word tells the length of its payload, and decodes to the command. -/
theorem commandBytesAreReadBackWithTheRest : Obligations.CommandBytesAreReadBackWithTheRest := by
  intro maxTypes i rest hwf hcommand
  obtain ⟨w, payload, henc, hlen⟩ := exists_word_of_isCommand hwf hcommand
  rw [encodeBytes_of_encode henc]
  exact decodeBytes_eq_ok_iff.mpr ⟨w, payload, rfl, hlen, decodeCommand_of_encode hwf henc⟩

/-- Settles O4: what is read was decoded from a word with its payload, and re-encodes to them. -/
theorem readCommandsReencodeToTheBytesTaken : Obligations.ReadCommandsReencodeToTheBytesTaken := by
  intro maxTypes bytes rest i h
  obtain ⟨w, payload, rfl, hlen, rfl⟩ := decodeBytes_eq_ok_iff.mp h
  obtain ⟨hwf, henc⟩ := decodeCommand_wf_encode (maxTypes := maxTypes) hlen
  exact ⟨hwf, decodeCommand_isCommand maxTypes w payload, by rw [encodeBytes_of_encode henc]⟩

/-- Settles O5: the decoder's check refuses exactly the words R102 lists, and a refused word is read as the rejected row. -/
theorem reservedEncodingsAreRejectedWithErrEncoding : Obligations.ReservedEncodingsAreRejectedWithErrEncoding := by
  refine ⟨?rejected, fun _ _ w' payload payload' h => decodeCommand_ne_reservedOpcode h w' payload payload',
    fun s w payload => exec_reservedOpcode w payload s⟩
  intro s w payload rest hlen hport hreserved
  have hread : decodeBytes s.cfg.maxDeviceTypes s.ports.command = .ok (.reservedOpcode w payload, rest) :=
    decodeBytes_eq_ok_iff.mpr ⟨w, payload, hport, hlen, decodeCommand_of_reservedEncoding hreserved⟩
  rw [step_of_decodeBytes hread, exec_reservedOpcode]

/-- Settles O8: each row of the statement is a state's code beside its handler, and DISPATCH runs that handler. -/
theorem dispatchRunsTheHandlerOfTheStateCode : Obligations.DispatchRunsTheHandlerOfTheStateCode := by
  intro s hint row hrow hcode
  obtain ⟨S, -, rfl⟩ : ∃ S ∈ linkStates, handlerRow S = row := List.mem_map.mp hrow
  exact exec_dispatch_eq_exec_handlerInstr hcode hint

end Sys2Proof
end

section
/-! PROOFS (40_timing_codec.md R122 to R126). The timing codec in numbers: each predicate of a duration is a window of natural
numbers, and the three classes of a low phase are the parts into which the two data windows cut the durations. -/

namespace Sys2Proof.Machine

open Sys2Proof

/-- R122 -/
theorem isStartLow_iff (d : Micros) : isStartLow d = true ↔ 3400 ≤ d.toNat ∧ d.toNat ≤ 4000 :=
  inWindow_iff d startLowNom startLowTol (by decide) (by decide)

/-- R123 -/
theorem isStartPeriod_iff (d : Micros) : isStartPeriod d = true ↔ 4200 ≤ d.toNat := by
  have hlower : (startPeriodNom - startPeriodTol).toNat = 4200 := rfl
  rw [isStartPeriod, decide_eq_true_iff, BitVec.le_def, hlower]

/-- R126 -/
theorem isBitPeriod_iff (d : Micros) : isBitPeriod d = true ↔ 1950 ≤ d.toNat := by
  have hlower : (bitPeriodNom - bitPeriodTol).toNat = 1950 := rfl
  rw [isBitPeriod, decide_eq_true_iff, BitVec.le_def, hlower]

/-- The durations of a class of R124. -/
def LowPhase.Window : LowPhase → Nat → Prop
  | .bit1, n => 300 ≤ n ∧ n ≤ 900
  | .bit0, n => 1200 ≤ n ∧ n ≤ 1800
  | .outOfRange, n => n < 300 ∨ (900 < n ∧ n < 1200) ∨ 1800 < n

/-- The windows of two classes have no duration in common. -/
theorem LowPhase.Window.unique {p q : LowPhase} {n : Nat} (hp : p.Window n) (hq : q.Window n) : p = q := by
  cases p <;> cases q <;> simp only [LowPhase.Window, reduceCtorEq] at hp hq ⊢ <;> omega

theorem window_dataLow (d : Micros) : (dataLow d).Window d.toNat := by
  rcases dataLow_cases d with ⟨h, hd⟩ | ⟨h, hd⟩ | ⟨h, hd⟩ <;> rw [h] <;> exact hd

/-- R124: a low phase has the class in whose window its duration lies. -/
theorem dataLow_eq_iff (d : Micros) (p : LowPhase) : dataLow d = p ↔ p.Window d.toNat :=
  ⟨fun h => h ▸ window_dataLow d, (window_dataLow d).unique⟩

end Sys2Proof.Machine

namespace Sys2Proof

open Sys2Proof.Machine

/-- Settles O22: a conjunct for each predicate of R122, R123 and R126 and each class of R124. -/
theorem durationsAreClassifiedByTheirWindows : Obligations.DurationsAreClassifiedByTheirWindows := fun d =>
  ⟨isStartLow_iff d, isStartPeriod_iff d, dataLow_eq_iff d .bit1, dataLow_eq_iff d .bit0, dataLow_eq_iff d .outOfRange,
    isBitPeriod_iff d⟩

end Sys2Proof
end

section
/-! PROOFS (41_frame_buffers.md R141, R146). The two frame buffers: the engine `StoreRxBit` leaves with room, at the eighth bit and with
the buffer full; the answer of TX_ENQUEUE by the first check that fails, and the bytes of the frame it accepts. -/

namespace Sys2Proof.Machine

open Sys2Proof

/-! ### Receive buffer -/

/-- The count of R146 wraps at 256, so the next count is 8 after a count of 7 and no other. -/
theorem count_add_one_eq_eight_iff (count : BitVec 8) : count + 1 = 8 ↔ count.toNat + 1 = 8 := by
  bv_omega

section StoredBit

variable (c : Config) (b : Bool) (e : Engine)

theorem storeRxBit_rxBitPos_toNat : (storeRxBit c b e).rxBitPos.toNat = (e.rxBitPos.toNat + 1) % 8 := by
  have hpos : (storeRxBit c b e).rxBitPos = e.rxBitPos + 1 := congrArg Engine.rxBitPos (storeRxBit_frame c b e)
  exact hpos ▸ BitVec.toNat_add e.rxBitPos 1

/-- A full buffer drops the bit. -/
theorem storeRxBit_of_full (hfull : c.rxCap * 8 ≤ e.receiveBitCount.toNat) :
    storeRxBit c b e = { e with rxBitPos := (storeRxBit c b e).rxBitPos } := by
  simp only [storeRxBit, if_neg (Nat.not_lt.mpr hfull)]

variable {c e} (hroom : e.receiveBitCount.toNat < c.rxCap * 8)

include hroom

/-- A bit that does not complete the header writes the buffer and its two counts alone. -/
theorem storeRxBit_of_ne_eighth (hcount : e.receiveBitCount.toNat + 1 ≠ 8) :
    storeRxBit c b e =
      { e with
        rxbuf := (storeRxBit c b e).rxbuf
        receiveBitCount := (storeRxBit c b e).receiveBitCount
        rxBitPos := (storeRxBit c b e).rxBitPos } := by
  have hcount' := mt (count_add_one_eq_eight_iff e.receiveBitCount).mp hcount
  simp only [storeRxBit, if_pos hroom, if_neg hcount']

/-- The eighth bit is stored as any other, then the header is recognised. -/
theorem storeRxBit_of_eighth (hcount : e.receiveBitCount.toNat + 1 = 8) :
    storeRxBit c b e = headerComplete c
      { e with
        rxbuf := (storeRxBit c b e).rxbuf
        receiveBitCount := (storeRxBit c b e).receiveBitCount
        rxBitPos := (storeRxBit c b e).rxBitPos } := by
  have hcount' := (count_add_one_eq_eight_iff e.receiveBitCount).mpr hcount
  simp only [storeRxBit, if_pos hroom, if_pos hcount', headerComplete]

end StoredBit

/-! ### Transmit buffer -/

/-- The header byte as a number (20_memory.md R65). -/
theorem headerByte_eq (src dst : Addr) : headerByte src dst = BitVec.ofNat 8 (src.toNat * 16 + dst.toNat) := by
  apply BitVec.eq_of_toNat_eq
  have hsrc := src.isLt
  have hdst := dst.isLt
  rw [headerByte, BitVec.toNat_append, ← Nat.shiftLeft_add_eq_or_of_lt hdst, Nat.shiftLeft_eq, BitVec.toNat_ofNat]
  omega

/-- An accepted frame stands at the front of the transmit buffer: the header, then the payload; every other byte stays. -/
theorem getElem?_enqueued_txbuf (src dst : Addr) (payload : List Byte) {e : Engine} {i : Nat} (hi : i < e.txbuf.length) :
    (enqueued src dst payload e).txbuf[i]? =
      if i = 0 then some (headerByte src dst) else if i ≤ payload.length then payload[i - 1]? else e.txbuf[i]? := by
  rw [enqueued_txbuf, getElem?_writeBytes _ _ _ _ hi]
  cases i with
  | zero => simp
  | succ i => simp

/-- TX_ENQUEUE answers by the first check of R141 that fails. -/
theorem execTxEnqueue_eq (srcSelf : Bool) (src dst : Addr) (payload : List Byte) (s : State) :
    execTxEnqueue srcSelf src dst payload s = .next (
      if srcSelf = true ∧ src ≠ 0 then rejectWith .encoding s
      else if s.engine.monitorMode = true then rejectWith .monitor s
      else if s.engine.transmitByteCount ≠ 0 then rejectWith .pending s
      else if s.cfg.txCap ≤ payload.length then rejectWith .tooLong s
      else acceptWith (enqueued (if srcSelf then s.engine.address else src) dst payload s.engine) [] s) := by
  have hsource : (!txEnqueueOk srcSelf src) = true ↔ srcSelf = true ∧ src ≠ 0 := by
    rw [Bool.not_eq_true', ← Bool.not_eq_true, txEnqueueOk_eq_true_iff, Classical.not_imp]
  simp only [execTxEnqueue, hsource, Nat.lt_succ_iff, apply_ite Host.Outcome.next]

end Sys2Proof.Machine

namespace Sys2Proof

open Sys2Proof.Machine

/-- Settles O24: the buffer has room for the bit, which is the eighth or is not, or the buffer is full. -/
theorem receivedBitsFillTheBufferMostSignificantFirst : Obligations.ReceivedBitsFillTheBufferMostSignificantFirst := by
  intro c e b hcap hsize
  refine ⟨storeRxBit_rxBitPos_toNat c b e, fun hroom => ?_, storeRxBit_of_full c b e⟩
  exact ⟨storeRxBit_receiveBitCount_toNat b hcap hroom, length_storeRxBit_rxbuf b,
    fun i _ _ hj => getLsbD_byteAt_storeRxBit b hsize hroom i hj, storeRxBit_of_ne_eighth b hroom, storeRxBit_of_eighth b hroom⟩

/-- Settles O29: the answer is the one of the first check that fails, the buffer that of the engine an accepted frame leaves. -/
theorem txEnqueueFillsTheTransmitBufferOrRejects : Obligations.TxEnqueueFillsTheTransmitBufferOrRejects := by
  intro s srcSelf src dst payload source
  have hlength : (enqueued source dst payload s.engine).txbuf.length = s.engine.txbuf.length := length_writeBytes ..
  refine ⟨(enqueued source dst payload s.engine).txbuf, execTxEnqueue_eq srcSelf src dst payload s, hlength, fun i hi => ?_⟩
  rw [getElem?_enqueued_txbuf _ _ _ (hlength ▸ hi), headerByte_eq]

end Sys2Proof
end

section
/-! PROOFS (42_receive.md R160 to R186). One dispatch in Idle and in each receive state: the branches of each handler are the cases of
its rule, once durations, waits and shared endings are read in numbers. -/

namespace Sys2Proof.Machine

open Sys2Proof

/-! ### A dispatch by the branches of its handler -/

/-- A handler row leaves what its handler leaves on the sampled inputs (46_host_interface.md R283). -/
theorem exec_handlerInstr_of_reply (S : LinkState) {s t : State}
    (h : dispatchedReply s (handlerFor S s.cfg s.inputs s.observed) = t) : exec (handlerInstr S) s = .next t :=
  (exec_handlerInstr S s).trans (congrArg Host.Outcome.next h)

section Branches

variable {s t t' : State} {r r' : Reply}

theorem dispatchedReply_ite {p q : Prop} {_ : Decidable p} {_ : Decidable q} (hpq : p ↔ q) (hpos : dispatchedReply s r = t)
    (hneg : dispatchedReply s r' = t') : dispatchedReply s (if p then r else r') = if q then t else t' := by
  rw [apply_ite (dispatchedReply s), hpos, hneg]
  exact if_congr hpq rfl rfl

theorem dispatchedReply_wait {e : Engine} {wait wait' : Micros} {events : List Event} (h : wait = wait') :
    dispatchedReply s ⟨e, wait, events⟩ = dispatched s e wait' events := by
  rw [h]
  rfl

/-- `ReturnToIdle()` (R162) -/
theorem dispatchedReply_returnToIdle (e : Engine) (events : List Event) :
    dispatchedReply s (returnToIdle e events) = dispatched s { e with state := 0 } (idleWait e) events := by
  rw [returnToIdle_eq]
  rfl

end Branches

/-! ### Durations and waits of a dispatch -/

section Durations

variable (s : State)

theorem elapsed_observed_toNat : (elapsed s.inputs s.observed).toNat = s.elapsed :=
  elapsed_toNat s.inputs s.observed

theorem le_elapsed_observed_iff (limit : Micros) : limit ≤ elapsed s.inputs s.observed ↔ limit.toNat ≤ s.elapsed := by
  rw [BitVec.le_def, elapsed_observed_toNat]

theorem isStartLow_observed_iff : isStartLow (elapsed s.inputs s.observed) = true ↔ 3400 ≤ s.elapsed ∧ s.elapsed ≤ 4000 :=
  elapsed_observed_toNat s ▸ isStartLow_iff _

theorem isStartPeriod_observed_iff : isStartPeriod (elapsed s.inputs s.observed) = true ↔ 4200 ≤ s.elapsed :=
  elapsed_observed_toNat s ▸ isStartPeriod_iff _

theorem isBitPeriod_observed_iff : isBitPeriod (elapsed s.inputs s.observed) = true ↔ 1950 ≤ s.elapsed :=
  elapsed_observed_toNat s ▸ isBitPeriod_iff _

theorem decodedBit_observed :
    decodedBit (elapsed s.inputs s.observed) = decide ¬ (1200 ≤ s.elapsed ∧ s.elapsed ≤ 1800) :=
  elapsed_observed_toNat s ▸ decodedBit_eq _

theorem inRange_observed : (dataLow (elapsed s.inputs s.observed) != .outOfRange) =
    decide ((300 ≤ s.elapsed ∧ s.elapsed ≤ 900) ∨ (1200 ≤ s.elapsed ∧ s.elapsed ≤ 1800)) :=
  elapsed_observed_toNat s ▸ inRange_eq _

/-- `StallWait()` (R162) is what is left of the stall timeout. -/
theorem stallWait_observed : stallWait s.cfg s.inputs s.observed = micros (s.cfg.rxStallTimeout.toNat - s.elapsed) :=
  remaining_eq _ _ _

/-- A handler that holds the line for `limit` µs and then leaves `r` waits for what is left of the time until then. -/
theorem dispatchedReply_hold (limit : Micros) {r : Reply} {t : State} (h : dispatchedReply s r = t) :
    dispatchedReply s (if limit ≤ elapsed s.inputs s.observed then r
      else ⟨s.observed, limit - elapsed s.inputs s.observed, []⟩) =
    if limit.toNat ≤ s.elapsed then t else dispatched s s.observed (micros (limit.toNat - s.elapsed)) [] := by
  have hlimit := le_elapsed_observed_iff s limit
  split
  next hover => rw [if_pos (hlimit.mp hover), h]
  next hunder =>
    have hleft : ¬ limit.toNat ≤ s.elapsed := mt hlimit.mpr hunder
    have hle : (elapsed s.inputs s.observed).toNat ≤ limit.toNat := elapsed_observed_toNat s ▸ Nat.le_of_not_le hleft
    rw [if_neg hleft, sub_eq_micros hle, elapsed_observed_toNat]
    rfl

/-- A handler that waits for the falling edge which ends a bit (R168, R175, R181): a bit period later it leaves `r`, too early it is a
line error, and without an edge it stalls. -/
theorem dispatchedReply_bitPeriod {r : Reply} {t : State} (h : dispatchedReply s r = t) :
    dispatchedReply s (if s.inputs.fall then
        if isBitPeriod (elapsed s.inputs s.observed) then r else enterLineError s.cfg s.inputs s.observed
      else awaitFall s.cfg s.inputs s.observed) =
    if s.inputs.fall then if 1950 ≤ s.elapsed then t else lineErrorOutcome s else stallOutcome s :=
  dispatchedReply_ite Iff.rfl (dispatchedReply_ite (isBitPeriod_observed_iff s) h (dispatchedReply_enterLineError s))
    (dispatchedReply_awaitFall s)

end Durations

/-! ### The flags of a dispatch -/

section Flags

variable (s : State)

/-- `DecodeDataBit(d)` (40_timing_codec.md R125) on the sampled engine. -/
theorem clearAckIfOutOfRange_observed :
    clearAckIfOutOfRange (elapsed s.inputs s.observed) s.observed =
      { s.observed with
        ack := s.engine.ack &&
          decide ((300 ≤ s.elapsed ∧ s.elapsed ≤ 900) ∨ (1200 ≤ s.elapsed ∧ s.elapsed ≤ 1800)) } := by
  rw [clearAckIfOutOfRange, inRange_observed]
  rfl

/-- The verdict of an ack bit (R179): a 0 acknowledges a frame to one node and rejects a broadcast. -/
theorem ackVerdict_eq (broadcast : Bool) (zero : Prop) [Decidable zero] :
    (!(broadcast && !decide ¬ zero) && !(!broadcast && decide ¬ zero)) =
      decide (broadcast = true ∧ ¬ zero ∨ broadcast = false ∧ zero) := by
  cases broadcast <;> simp

/-- `ObserveAck(d)` (R179) on the sampled engine. -/
theorem observeAck_observed :
    observeAck (elapsed s.inputs s.observed) s.observed =
      { s.observed with
        ack := s.engine.ack &&
          decide ((300 ≤ s.elapsed ∧ s.elapsed ≤ 900) ∨ (1200 ≤ s.elapsed ∧ s.elapsed ≤ 1800)) &&
          decide (s.engine.broadcast = true ∧ ¬ (1200 ≤ s.elapsed ∧ s.elapsed ≤ 1800) ∨
            s.engine.broadcast = false ∧ (1200 ≤ s.elapsed ∧ s.elapsed ≤ 1800)) } := by
  rw [← ackVerdict_eq, ← Bool.and_assoc, ← decodedBit_observed, ← inRange_observed]
  rfl

variable (e : Engine)

/-- The condition of R177 and R178 under which a frame ends. -/
theorem eom_or_not_ack_iff : (e.eom || !e.ack) = true ↔ e.eom = true ∨ e.ack = false := by
  rw [Bool.or_eq_true, Bool.not_eq_true']

theorem involved_iff : (e.follower || e.broadcast || e.promiscuous) = true ↔
    e.follower = true ∨ e.broadcast = true ∨ e.promiscuous = true := by
  rw [Bool.or_eq_true, Bool.or_eq_true, or_assoc]

/-- `CompleteFrame()` (R186) delivers to an involved node. -/
theorem completeFrame_eq : completeFrame e =
    if e.follower = true ∨ e.broadcast = true ∨ e.promiscuous = true then [.frameReceived (rxFrame e) e.ack] else [] :=
  if_congr (involved_iff e) rfl rfl

/-- `AssertAck()` (R174) -/
theorem assertAck_iff : assertAck e = true ↔
    e.monitorMode = false ∧ ((e.follower = true ∧ e.ack = true) ∨ (e.broadcast = true ∧ e.ack = false)) := by
  simp only [assertAck, Bool.and_eq_true, Bool.or_eq_true, Bool.not_eq_true']

/-- The state after a data bit (R168): the EOM bit at a byte's end, else the next data bit. -/
theorem afterDataBit_code : (if byteComplete e then LinkState.rcvEom1 else .rcvData1).code = if e.rxBitPos = 0 then 5 else 3 := by
  rw [apply_ite LinkState.code]
  exact if_congr beq_iff_eq rfl rfl

end Flags

end Sys2Proof.Machine

namespace Sys2Proof

open Sys2Proof.Machine

/-- Settles O31: a falling edge, a frame to send on a free line, or neither. -/
theorem idleStartsAReceptionOrArbitration : Obligations.IdleStartsAReceptionOrArbitration := by
  intro s
  have hpending : (s.inputs.line && framePending s.observed) = true ↔
      s.inputs.line = true ∧ s.engine.transmitByteCount ≠ 0 ∧ s.engine.monitorMode = false := by
    rw [Bool.and_eq_true, framePending_iff]
    rfl
  exact exec_handlerInstr_of_reply .idle (dispatchedReply_ite Iff.rfl rfl (dispatchedReply_ite hpending rfl rfl))

/-- Settles O32: the rising edge ends a start bit's low phase, or one of another length. -/
theorem startBitLowPhaseDecidesTheReception : Obligations.StartBitLowPhaseDecidesTheReception := fun s =>
  exec_handlerInstr_of_reply .rcvStartBit1 <| dispatchedReply_ite Iff.rfl
    (dispatchedReply_ite (isStartLow_observed_iff s) (dispatchedReply_wait (stallWait_observed s))
      (dispatchedReply_returnToIdle s.observed []))
    rfl

/-- Settles O33: the falling edge ends a start bit, or comes too early. -/
theorem startBitPeriodDecidesTheReception : Obligations.StartBitPeriodDecidesTheReception := fun s =>
  exec_handlerInstr_of_reply .rcvStartBit2 <| dispatchedReply_ite Iff.rfl
    (dispatchedReply_ite (isStartPeriod_observed_iff s) rfl (dispatchedReply_returnToIdle s.observed []))
    (dispatchedReply_awaitFall s)

/-- Settles O34: the rising edge stores the bit its low phase is read as. -/
theorem dataBitLowPhaseStoresABit : Obligations.DataBitLowPhaseStoresABit := by
  intro s one zero
  refine exec_handlerInstr_of_reply .rcvData1 (dispatchedReply_ite Iff.rfl ?_ rfl)
  rw [← clearAckIfOutOfRange_observed, ← decodedBit_observed]
  exact dispatchedReply_wait (stallWait_observed s)

/-- Settles O35: at the end of the bit period the next state is the one R168 names for the place in the byte. -/
theorem dataBitPeriodLeadsToTheNextBitOrALineError : Obligations.DataBitPeriodLeadsToTheNextBitOrALineError := by
  intro s
  refine exec_handlerInstr_of_reply .rcvData2 (dispatchedReply_bitPeriod s ?_)
  rw [goto, afterDataBit_code]
  rfl

/-- Settles O36: the rising edge sets `eom` to the bit its low phase is read as. -/
theorem eomLowPhaseSetsEom : Obligations.EomLowPhaseSetsEom := by
  intro s one zero
  refine exec_handlerInstr_of_reply .rcvEom1 (dispatchedReply_ite Iff.rfl ?_ rfl)
  rw [clearAckIfOutOfRange_observed, decodedBit_observed]
  exact dispatchedReply_wait (stallWait_observed s)

/-- Settles O37: at the end of the bit period `AssertAck()` decides who drives the ack bit. -/
theorem eomPeriodLeadsToAssertingOrWatchingTheAck : Obligations.EomPeriodLeadsToAssertingOrWatchingTheAck := fun s =>
  exec_handlerInstr_of_reply .rcvEom2 <|
    dispatchedReply_bitPeriod s (dispatchedReply_ite (assertAck_iff s.observed) rfl rfl)

/-- Settles O38: after the low phase the frame ends or goes on. -/
theorem assertedAckIsReleasedAfterItsLowPhase : Obligations.AssertedAckIsReleasedAfterItsLowPhase := by
  intro s e
  refine exec_handlerInstr_of_reply .rcvAckSent (dispatchedReply_hold s (lowTime false)
    (dispatchedReply_ite (eom_or_not_ack_iff s.observed) ?ends (dispatchedReply_wait (stallWait_observed s))))
  rw [completeFrame_eq]
  exact dispatchedReply_returnToIdle _ _

/-- Settles O39: with the verdict of the observed bit the frame ends, goes on or is ignored. -/
theorem observedAckBitDecidesTheVerdict : Obligations.ObservedAckBitDecidesTheVerdict := by
  intro s one zero e ack involved
  refine exec_handlerInstr_of_reply .rcvAck1 (dispatchedReply_ite Iff.rfl ?_ rfl)
  rw [observeAck_observed]
  refine dispatchedReply_ite (eom_or_not_ack_iff _) ?ends (dispatchedReply_ite (involved_iff _)
    (dispatchedReply_wait (stallWait_observed s)) (dispatchedReply_returnToIdle _ []))
  rw [completeFrame_eq]
  exact dispatchedReply_returnToIdle _ _

/-- Settles O40: at the end of the bit period the next byte starts. -/
theorem ackPeriodLeadsToTheNextByte : Obligations.AckPeriodLeadsToTheNextByte := fun s =>
  exec_handlerInstr_of_reply .rcvAck2 (dispatchedReply_bitPeriod s rfl)

/-- Settles O41: the hold is a time to wait for, whatever the line does. -/
theorem lineErrorIsHeldThenReleased : Obligations.LineErrorIsHeldThenReleased := fun s =>
  exec_handlerInstr_of_reply .rcvLineError (dispatchedReply_hold s s.cfg.lineErrorHold (dispatchedReply_returnToIdle _ []))

end Sys2Proof
end

section
/-! PROOFS (42_receive.md R172). The header's destination nibble in numbers, and the two flags it decides. -/

namespace Sys2Proof.Machine

open Sys2Proof

/-- The destination is the low nibble of the header (30_encoding.md R87). -/
theorem headerDest_toNat (header : Byte) : (headerDest header).toNat = header.toNat % 16 := by
  rw [headerDest, BitVec.extractLsb'_toNat, Nat.shiftRight_zero]

theorem byteAt_zero_of_head? {buf : List Byte} {b : Byte} (h : buf.head? = some b) : byteAt buf 0 = b := by
  rw [byteAt, List.getD_eq_getElem?_getD, ← List.head?_eq_getElem?, h, Option.getD_some]

/-- The two flags compare the same nibble with the same address. -/
theorem not_follower_and_broadcast_headerComplete (c : Config) (e : Engine) :
    ¬ ((headerComplete c e).follower = true ∧ (headerComplete c e).broadcast = true) := by
  rintro ⟨hfollower, hbroadcast⟩
  exact bne_iff_ne.mp (Bool.and_eq_true_iff.mp hfollower).1 (beq_iff_eq.mp hbroadcast)

end Sys2Proof.Machine

namespace Sys2Proof

open Sys2Proof.Machine

/-- Settles O25: addresses are equal when their numbers are. -/
theorem headerDestinationSetsFollowerAndBroadcast : Obligations.HeaderDestinationSetsFollowerAndBroadcast := by
  intro c e header hheader dest
  refine ⟨?flags, not_follower_and_broadcast_headerComplete c e⟩
  have hdest : (headerDest header).toNat = dest := headerDest_toNat header
  have hbroadcast : (headerDest header == c.broadcastAddr) = decide (dest = c.broadcastAddr.toNat) := by
    rw [Bool.eq_iff_iff, beq_iff_eq, decide_eq_true_iff, ← hdest, BitVec.toNat_inj]
  rw [headerComplete, byteAt_zero_of_head? hheader]
  simp only [bne, hbroadcast, hdest, decide_not, ne_eq]

end Sys2Proof
end

section
/-! PROOFS (42_receive.md R160 to R186). What Idle and the receive handlers write, told by state, and that each of them writes nothing
else. -/

namespace Sys2Proof.Machine

open Sys2Proof

/-- The states whose handlers 42_receive.md gives, in the order of their codes (10_state.md R31). -/
def receiveStates : List LinkState :=
  [.idle, .rcvStartBit1, .rcvStartBit2, .rcvData1, .rcvData2, .rcvEom1, .rcvEom2, .rcvAck1, .rcvAck2, .rcvAckSent, .rcvLineError]

/-- The engine `e` with the fields the receive handler of `S` may write taken from `written`. -/
def receiveWrites (S : LinkState) (e written : Engine) : Engine :=
  { e with
    state := written.state
    driveLevel := written.driveLevel
    bitStartTime := written.bitStartTime
    wasLastTransmitter := if S = .rcvStartBit2 then written.wasLastTransmitter else e.wasLastTransmitter
    eom := if S = .idle ∨ S = .rcvEom1 then written.eom else e.eom
    follower := if S = .idle ∨ S = .rcvData1 then written.follower else e.follower
    broadcast := if S = .idle ∨ S = .rcvData1 then written.broadcast else e.broadcast
    receiveBitCount := if S = .idle ∨ S = .rcvData1 then written.receiveBitCount else e.receiveBitCount
    rxBitPos := if S = .idle ∨ S = .rcvData1 then written.rxBitPos else e.rxBitPos
    ack := if S ∈ [.idle, .rcvData1, .rcvEom1, .rcvAck1] then written.ack else e.ack
    rxbuf := if S = .rcvData1 then written.rxbuf else e.rxbuf }

/-- The reply leaves the engine `e` but for the fields the receive handler of `S` may write. -/
def WritesAsReceiver (S : LinkState) (e : Engine) (r : Reply) : Prop := r.engine = receiveWrites S e r.engine

section ReceiveHandlers

variable (c : Config) (x : Inputs) (e : Engine)

/-- A reply by cases writes what its cases write. -/
theorem writesAsReceiver_ite {S : LinkState} {e : Engine} {p : Prop} {_ : Decidable p} {r r' : Reply}
    (h : WritesAsReceiver S e r) (h' : WritesAsReceiver S e r') : WritesAsReceiver S e (if p then r else r') :=
  iteInduction (fun _ => h) (fun _ => h')

/-- The state, the line and the start of the bit are written by every receive handler. -/
theorem writesAsReceiver_bit (S : LinkState) (state : StateCode) (driveLevel : Bool) (bitStartTime wait : Micros)
    (events : List Event) :
    WritesAsReceiver S e
      ⟨{ e with state := state, driveLevel := driveLevel, bitStartTime := bitStartTime }, wait, events⟩ := by
  simp only [WritesAsReceiver, receiveWrites, ite_self]

theorem enterLineError_writes (S : LinkState) : WritesAsReceiver S e (enterLineError c x e) :=
  writesAsReceiver_ite (writesAsReceiver_bit ..) (writesAsReceiver_bit ..)

theorem awaitFall_writes (S : LinkState) : WritesAsReceiver S e (awaitFall c x e) :=
  writesAsReceiver_ite (writesAsReceiver_bit ..) (writesAsReceiver_bit ..)

theorem handleIdle_writes : WritesAsReceiver .idle e (handleIdle c x e) :=
  writesAsReceiver_ite rfl (writesAsReceiver_ite rfl rfl)

theorem handleRcvStartBit1_writes : WritesAsReceiver .rcvStartBit1 e (handleRcvStartBit1 c x e) :=
  writesAsReceiver_ite (writesAsReceiver_ite rfl rfl) rfl

theorem handleRcvStartBit2_writes : WritesAsReceiver .rcvStartBit2 e (handleRcvStartBit2 c x e) :=
  writesAsReceiver_ite (writesAsReceiver_ite rfl rfl) (awaitFall_writes c x e _)

theorem handleRcvData1_writes : WritesAsReceiver .rcvData1 e (handleRcvData1 c x e) := by
  refine writesAsReceiver_ite ?_ rfl
  dsimp only
  rw [storeRxBit_frame]
  rfl

theorem handleRcvData2_writes : WritesAsReceiver .rcvData2 e (handleRcvData2 c x e) :=
  writesAsReceiver_ite (writesAsReceiver_ite rfl (enterLineError_writes c x e _)) (awaitFall_writes c x e _)

theorem handleRcvEom1_writes : WritesAsReceiver .rcvEom1 e (handleRcvEom1 c x e) :=
  writesAsReceiver_ite rfl rfl

theorem handleRcvEom2_writes : WritesAsReceiver .rcvEom2 e (handleRcvEom2 c x e) :=
  writesAsReceiver_ite (writesAsReceiver_ite (writesAsReceiver_ite rfl rfl) (enterLineError_writes c x e _))
    (awaitFall_writes c x e _)

theorem handleRcvAck1_writes : WritesAsReceiver .rcvAck1 e (handleRcvAck1 c x e) :=
  writesAsReceiver_ite (writesAsReceiver_ite rfl (writesAsReceiver_ite rfl rfl)) rfl

theorem handleRcvAck2_writes : WritesAsReceiver .rcvAck2 e (handleRcvAck2 c x e) :=
  writesAsReceiver_ite (writesAsReceiver_ite rfl (enterLineError_writes c x e _)) (awaitFall_writes c x e _)

theorem handleRcvAckSent_writes : WritesAsReceiver .rcvAckSent e (handleRcvAckSent c x e) :=
  writesAsReceiver_ite (writesAsReceiver_ite rfl rfl) rfl

theorem handleRcvLineError_writes : WritesAsReceiver .rcvLineError e (handleRcvLineError c x e) :=
  writesAsReceiver_ite rfl rfl

theorem handlerFor_writesAsReceiver : ∀ S ∈ receiveStates, WritesAsReceiver S e (handlerFor S c x e) := by
  simp only [receiveStates, List.forall_mem_cons]
  exact ⟨handleIdle_writes c x e, handleRcvStartBit1_writes c x e, handleRcvStartBit2_writes c x e, handleRcvData1_writes c x e,
    handleRcvData2_writes c x e, handleRcvEom1_writes c x e, handleRcvEom2_writes c x e, handleRcvAck1_writes c x e,
    handleRcvAck2_writes c x e, handleRcvAckSent_writes c x e, handleRcvLineError_writes c x e, List.forall_mem_nil _⟩

/-- A stored bit changes the byte the count points to alone (41_frame_buffers.md R146). -/
theorem getElem?_storeRxBit_rxbuf_of_ne (b : Bool) {k : Nat} (hk : k ≠ e.receiveBitCount.toNat / 8) :
    (storeRxBit c b e).rxbuf[k]? = e.rxbuf[k]? := by
  rw [storeRxBit_rxbuf]
  split
  · exact getElem?_rxbufSet_of_ne _ _ _ _ _ hk
  · rfl

theorem getElem?_handleRcvData1_rxbuf_of_ne {k : Nat} (hk : k ≠ e.receiveBitCount.toNat / 8) :
    (handleRcvData1 c x e).engine.rxbuf[k]? = e.rxbuf[k]? := by
  unfold handleRcvData1
  split
  · exact getElem?_storeRxBit_rxbuf_of_ne c (clearAckIfOutOfRange (elapsed x e) e) (decodedBit (elapsed x e)) hk
  · rfl

end ReceiveHandlers

end Sys2Proof.Machine

namespace Sys2Proof

open Sys2Proof.Machine

/-- Settles O55: the fields a row may write are those of its handler's state. -/
theorem receiveHandlersLeaveTheRestUnchanged : Obligations.ReceiveHandlersLeaveTheRestUnchanged := by
  intro i s t hi h
  obtain ⟨S, hS, rfl⟩ : ∃ S ∈ receiveStates, handlerInstr S = i := List.mem_map.mp hi
  cases (exec_handlerInstr S s).symm.trans h
  intro e e'
  have hwrites : e' = receiveWrites S s.observed e' := handlerFor_writesAsReceiver s.cfg s.inputs s.observed S hS
  have hrow : ∀ S', handlerInstr S ≠ handlerInstr S' → S ≠ S' := fun _ => mt (congrArg handlerInstr)
  rw [hwrites]
  refine ⟨rfl, rfl, rfl, rfl, rfl, rfl, rfl, rfl, rfl, rfl, rfl, rfl, rfl, rfl, rfl, rfl, rfl, samplePorts_command s.ports,
    ?wasLastTransmitter, ?eom, ?counters, ?ack, ?rxbuf⟩
  case wasLastTransmitter => exact fun hstart => if_neg (hrow .rcvStartBit2 hstart)
  case eom => exact fun hidle heom => if_neg (not_or.mpr ⟨hrow .idle hidle, hrow .rcvEom1 heom⟩)
  case counters =>
    intro hidle hdata
    have hneither : ¬ (S = .idle ∨ S = .rcvData1) := not_or.mpr ⟨hrow .idle hidle, hrow .rcvData1 hdata⟩
    exact ⟨if_neg hneither, if_neg hneither, if_neg hneither, if_neg hneither⟩
  case ack => exact fun hrows => if_neg (mt List.mem_map_of_mem hrows)
  case rxbuf =>
    intro k hbyte
    by_cases hdata : S = .rcvData1
    · subst hdata
      exact getElem?_handleRcvData1_rxbuf_of_ne s.cfg s.inputs s.observed (hbyte rfl)
    · exact congrArg (·[k]?) (if_neg hdata)

end Sys2Proof
end

section
/-! PROOFS (42_receive.md R188). The events of the transmit chain: each handler emits none, or those of the end of its frame. -/

namespace Sys2Proof.Machine

open Sys2Proof

/-- The states of the transmit chain and the wait before it, in the order of their codes (10_state.md R31, R32). -/
def transmitStates : List LinkState :=
  [.xmitWait, .xmitStartBit1, .xmitStartBit2, .xmitData1, .xmitData2, .xmitEom1, .xmitEom2, .xmitAck1, .xmitAckTest, .xmitAckWait,
    .xmitAck2]

theorem mem_transmitStates_of_isTransmitting {S : LinkState} (h : isTransmitting S.code) : S ∈ transmitStates := by
  revert h
  cases S <;> decide

/-- The reply emits no event, or it is the end of a frame (44_arbitration.md R248). -/
inductive EmitsOnlyAtTheEnd (c : Config) (r : Reply) : Prop
  | silent (events : r.events = [])
  | ends (ok : Bool) (e : Engine) (reply : r = finishTransmit c ok e)

/-- The end of a frame emits its report, and READY where the allocation run ends with it. -/
theorem mem_finishTransmit_events {c : Config} {ok : Bool} {e : Engine} {event : Event} (h : event ∈ (finishTransmit c ok e).events) :
    (∃ frame acked, event = .transmitComplete frame acked) ∨ ∃ a, event = .ready a := by
  obtain ⟨-, -, hevents⟩ | ⟨-, n, e₁, _, -, -, -, hevents⟩ := finishTransmit_cases c ok e <;> rw [hevents] at h
  · exact .inl ⟨_, _, List.mem_singleton.mp h⟩
  · obtain hreport | hrun := List.mem_cons.mp h
    · exact .inl ⟨_, _, hreport⟩
    · obtain ⟨hnone, -, -⟩ | ⟨hready, -, -⟩ := probeLoop_events c n e₁
      · rw [hnone] at hrun
        exact absurd hrun List.not_mem_nil
      · rw [hready] at hrun
        exact .inr ⟨_, List.mem_singleton.mp hrun⟩

theorem EmitsOnlyAtTheEnd.frameReceived_not_mem {c : Config} {r : Reply} (h : EmitsOnlyAtTheEnd c r) (bytes : List Byte) (ok : Bool) :
    Event.frameReceived bytes ok ∉ r.events := by
  cases h with
  | silent events => exact events ▸ List.not_mem_nil
  | ends ok' e reply =>
    intro hmem
    obtain ⟨_, _, hreport⟩ | ⟨_, hready⟩ := mem_finishTransmit_events (reply ▸ hmem)
    · cases hreport
    · cases hready

section TransmitHandlers

variable (c : Config) (x : Inputs) (e : Engine)

theorem emitsOnlyAtTheEnd_ite {c : Config} {p : Prop} {_ : Decidable p} {r r' : Reply} (h : EmitsOnlyAtTheEnd c r)
    (h' : EmitsOnlyAtTheEnd c r') : EmitsOnlyAtTheEnd c (if p then r else r') :=
  iteInduction (fun _ => h) (fun _ => h')

theorem transmitFailed_emits : EmitsOnlyAtTheEnd c (transmitFailed c e) := by
  obtain ⟨hends, -⟩ | ⟨hretry, -, -⟩ := transmitFailed_cases c e
  · exact .ends _ _ hends
  · exact .silent (congrArg Reply.events hretry)

theorem collisionAbort_emits : EmitsOnlyAtTheEnd c (collisionAbort c e) := transmitFailed_emits c (driveLine true e)

theorem transmitSucceeded_emits : EmitsOnlyAtTheEnd c (transmitSucceeded c e) := .ends _ _ rfl

theorem handleXmitWait_emits : EmitsOnlyAtTheEnd c (handleXmitWait c x e) :=
  emitsOnlyAtTheEnd_ite (.silent rfl) (emitsOnlyAtTheEnd_ite (.silent rfl) (emitsOnlyAtTheEnd_ite (.silent rfl) (.silent rfl)))

/-- A handler that looks for a collision first, and then for the end of its time (43_transmit.md R202 to R209, R213). -/
theorem collisionAbort_else_emits {p q : Prop} {_ : Decidable p} {_ : Decidable q} {r r' : Reply} (h : EmitsOnlyAtTheEnd c r)
    (h' : r'.events = []) : EmitsOnlyAtTheEnd c (if p then collisionAbort c e else if q then r else r') :=
  emitsOnlyAtTheEnd_ite (collisionAbort_emits c e) (emitsOnlyAtTheEnd_ite h (.silent h'))

theorem handleXmitStartBit1_emits : EmitsOnlyAtTheEnd c (handleXmitStartBit1 c x e) :=
  collisionAbort_else_emits c e (.silent rfl) rfl

theorem handleXmitStartBit2_emits : EmitsOnlyAtTheEnd c (handleXmitStartBit2 c x e) :=
  collisionAbort_else_emits c e (.silent rfl) rfl

theorem handleXmitData1_emits : EmitsOnlyAtTheEnd c (handleXmitData1 c x e) :=
  collisionAbort_else_emits c e (.silent rfl) rfl

theorem handleXmitData2_emits : EmitsOnlyAtTheEnd c (handleXmitData2 c x e) :=
  collisionAbort_else_emits c e (emitsOnlyAtTheEnd_ite (.silent rfl) (.silent rfl)) rfl

theorem handleXmitEom1_emits : EmitsOnlyAtTheEnd c (handleXmitEom1 c x e) :=
  collisionAbort_else_emits c e (.silent rfl) rfl

theorem handleXmitEom2_emits : EmitsOnlyAtTheEnd c (handleXmitEom2 c x e) :=
  collisionAbort_else_emits c e (.silent rfl) rfl

theorem handleXmitAck1_emits : EmitsOnlyAtTheEnd c (handleXmitAck1 c x e) :=
  collisionAbort_else_emits c e (.silent rfl) rfl

theorem handleXmitAckTest_emits : EmitsOnlyAtTheEnd c (handleXmitAckTest c x e) :=
  emitsOnlyAtTheEnd_ite (.silent rfl) <| emitsOnlyAtTheEnd_ite (transmitFailed_emits c e) <|
    emitsOnlyAtTheEnd_ite (transmitSucceeded_emits c e) (emitsOnlyAtTheEnd_ite (.silent rfl) (.silent rfl))

theorem handleXmitAckWait_emits : EmitsOnlyAtTheEnd c (handleXmitAckWait c x e) :=
  emitsOnlyAtTheEnd_ite (.silent rfl) (emitsOnlyAtTheEnd_ite (collisionAbort_emits c e) (.silent rfl))

theorem handleXmitAck2_emits : EmitsOnlyAtTheEnd c (handleXmitAck2 c x e) :=
  collisionAbort_else_emits c e (.silent rfl) rfl

theorem handlerFor_emitsOnlyAtTheEnd : ∀ S ∈ transmitStates, EmitsOnlyAtTheEnd c (handlerFor S c x e) := by
  simp only [transmitStates, List.forall_mem_cons]
  exact ⟨handleXmitWait_emits c x e, handleXmitStartBit1_emits c x e, handleXmitStartBit2_emits c x e, handleXmitData1_emits c x e,
    handleXmitData2_emits c x e, handleXmitEom1_emits c x e, handleXmitEom2_emits c x e, handleXmitAck1_emits c x e,
    handleXmitAckTest_emits c x e, handleXmitAckWait_emits c x e, handleXmitAck2_emits c x e, List.forall_mem_nil _⟩

end TransmitHandlers

end Sys2Proof.Machine

namespace Sys2Proof

open Sys2Proof.Machine

/-- Settles O21: a transmit state's handler emits events only where it ends a frame, and no delivery is among those. -/
theorem noFrameIsReceivedWhileTransmitting : Obligations.NoFrameIsReceivedWhileTransmitting := by
  intro s t hint htransmitting h bytes ok
  obtain ⟨S, hS, rfl⟩ := exec_dispatch_next h
  have hmem : S ∈ transmitStates := mem_transmitStates_of_isTransmitting (hS ▸ htransmitting)
  exact (handlerFor_emitsOnlyAtTheEnd s.cfg s.inputs s.observed S hmem).frameReceived_not_mem bytes ok

end Sys2Proof
end

section
/-! PROOFS (43_transmit.md R202 to R218). One dispatch in each state of the transmit chain: the branches of each handler are the cases of
its rule. The low phases and the periods after a release have one lemma each, and arbitration on a shared bus is read off their cases. -/

namespace Sys2Proof.Machine

open Sys2Proof

/-- An attempt fails at the sample point (R211): high on an addressed frame, low on a broadcast. -/
theorem not_ackedAt_iff (line : Bool) (e : Engine) : (!ackedAt line e) = true ↔ line ≠ e.broadcast := by
  unfold ackedAt
  cases e.broadcast <;> cases line <;> decide

section TransmitBranches

variable (s : State)

/-- A state that drives a low phase of `low` µs in a symbol of `period` µs (R202, R205, R207). -/
theorem dispatchedReply_lowPhase (low period : Micros) (S : LinkState) :
    dispatchedReply s (if s.inputs.line then collisionAbort s.cfg s.observed
      else if low ≤ elapsed s.inputs s.observed then
        ⟨goto S (releaseLine s.inputs s.observed), releaseWait s.cfg period s.inputs s.observed, []⟩
      else ⟨s.observed, low - elapsed s.inputs s.observed, []⟩) =
    lowPhaseOutcome s low.toNat period.toNat S.code := by
  have hwait : releaseWait s.cfg period s.inputs s.observed =
      micros (min s.cfg.lineSettle.toNat (period.toNat - s.elapsed)) := by
    have hle : period.toNat - s.elapsed < 2 ^ 64 := Nat.lt_of_le_of_lt (Nat.sub_le _ _) period.isLt
    rw [releaseWait, remaining_eq, minMicros_eq, since_observed_bitStartTime, micros_toNat hle]
  exact dispatchedReply_ite Iff.rfl rfl (dispatchedReply_hold s low (dispatchedReply_wait hwait))

/-- A low line is what a low phase drives: the attempt goes on with its frame as it was (R214, R218). -/
theorem lowPhaseOutcome_of_line_low (low period : Nat) (next : StateCode) (hline : ¬ s.inputs.line = true) :
    let t := lowPhaseOutcome s low period next
    (t.engine.state = s.engine.state ∨ t.engine.state = next) ∧ t.events = [] ∧ t.engine.retryCount = s.engine.retryCount ∧
      t.engine.transmitBitCursor = s.engine.transmitBitCursor ∧ t.engine.transmitByteCount = s.engine.transmitByteCount ∧
      t.engine.txbuf = s.engine.txbuf := by
  rw [lowPhaseOutcome, if_neg hline]
  split
  · exact ⟨.inr rfl, rfl, rfl, rfl, rfl, rfl⟩
  · exact ⟨.inl rfl, rfl, rfl, rfl, rfl, rfl⟩

/-- The settle rule of R214 on the sampled engine. -/
theorem settled_observed_iff :
    (!s.inputs.line && decide (s.cfg.lineSettle ≤ sinceRelease s.inputs s.observed)) = true ↔
      s.inputs.line = false ∧ s.cfg.lineSettle.toNat ≤ s.sinceRelease := by
  rw [Bool.and_eq_true, Bool.not_eq_true', decide_eq_true_iff, BitVec.le_def, sinceRelease_toNat, since_observed_releaseTime]

/-- The wait before the end of a period: no collision yet on a line still low means that it is still settling. -/
theorem awaitPeriod_observed {period : Micros} (hperiod : ¬ period.toNat ≤ s.elapsed)
    (hcollided : ¬ (s.inputs.line = false ∧ s.cfg.lineSettle.toNat ≤ s.sinceRelease)) :
    awaitPeriod s.cfg period s.inputs s.observed =
      if s.inputs.line = false then micros (min (s.cfg.lineSettle.toNat - s.sinceRelease) (period.toNat - s.elapsed))
      else micros (period.toNat - s.elapsed) := by
  have hrest : period - elapsed s.inputs s.observed = micros (period.toNat - s.elapsed) := by
    rw [sub_eq_micros (elapsed_observed_toNat s ▸ Nat.le_of_not_le hperiod), elapsed_observed_toNat]
  unfold awaitPeriod
  cases hline : s.inputs.line with
  | true => exact hrest
  | false =>
    have hsince : (sinceRelease s.inputs s.observed).toNat = s.sinceRelease := sinceRelease_toNat s.inputs s.observed
    have hsettling : s.sinceRelease ≤ s.cfg.lineSettle.toNat := Nat.le_of_not_le fun hle => hcollided ⟨hline, hle⟩
    have hlt := s.cfg.lineSettle.isLt
    have hlt' := period.isLt
    rw [if_neg Bool.false_ne_true, if_pos rfl, hrest, sub_eq_micros (hsince ▸ hsettling), minMicros_eq, hsince,
      micros_toNat (by omega), micros_toNat (by omega)]

/-- A state that has released the line and waits out `period` µs, then leaving `r` (R203, R206, R208). -/
theorem dispatchedReply_highPhase (period : Micros) {r : Reply} {atEnd : State} (h : dispatchedReply s r = atEnd) :
    dispatchedReply s (if !s.inputs.line && decide (s.cfg.lineSettle ≤ sinceRelease s.inputs s.observed) then
        collisionAbort s.cfg s.observed
      else if period ≤ elapsed s.inputs s.observed then r
      else ⟨s.observed, awaitPeriod s.cfg period s.inputs s.observed, []⟩) =
    highPhaseOutcome s period.toNat atEnd := by
  have hcollided := settled_observed_iff s
  have hover := le_elapsed_observed_iff s period
  unfold highPhaseOutcome
  split
  next hc => rw [if_pos (hcollided.mp hc)]; rfl
  next hc =>
    rw [if_neg (mt hcollided.mpr hc)]
    split
    next hend => rw [if_pos (hover.mp hend), h]
    next hunder =>
      rw [if_neg (mt hover.mpr hunder), ← apply_ite (dispatched s s.observed · []),
        ← awaitPeriod_observed s (mt hover.mpr hunder) (mt hcollided.mpr hc)]
      rfl

/-- `DriveBit(b, S)` (R200) -/
theorem dispatchedReply_driveBit (e : Engine) (b : Bool) (S : LinkState) :
    dispatchedReply s (driveBit b S s.inputs e) = bitStartOutcome s e b S.code := by
  cases b <;> rfl

/-- A handler that waits until `limit` µs have passed and then leaves `r` (R210). -/
theorem dispatchedReply_until (limit : Micros) {r : Reply} {t : State} (h : dispatchedReply s r = t) :
    dispatchedReply s (if elapsed s.inputs s.observed < limit then ⟨s.observed, limit - elapsed s.inputs s.observed, []⟩
      else r) =
    if s.elapsed < limit.toNat then dispatched s s.observed (micros (limit.toNat - s.elapsed)) [] else t := by
  simpa only [← BitVec.not_le, ← Nat.not_le, ite_not] using dispatchedReply_hold s limit h

end TransmitBranches

end Sys2Proof.Machine

namespace Sys2Proof

open Sys2Proof.Machine

/-- Settles O43: the three low phases differ in their length, their symbol's period and the state after them. -/
theorem sentLowPhasesLastTheirNominalTime : Obligations.SentLowPhasesLastTheirNominalTime := by
  intro s
  refine ⟨exec_handlerInstr_of_reply .xmitStartBit1 (dispatchedReply_lowPhase s startLowNom startPeriodNom .xmitStartBit2), ?_, ?_⟩
  · rw [← lowTime_toNat]
    exact exec_handlerInstr_of_reply .xmitData1 (dispatchedReply_lowPhase s (lowTime (txBit s.engine)) bitPeriodNom .xmitData2)
  · rw [← lowTime_toNat]
    exact exec_handlerInstr_of_reply .xmitEom1 (dispatchedReply_lowPhase s (lowTime s.engine.eom) bitPeriodNom .xmitEom2)

/-- Settles O44: at the end of the period the next bit is driven. -/
theorem startAndEomPeriodsLeadToTheNextSymbol : Obligations.StartAndEomPeriodsLeadToTheNextSymbol := fun s =>
  ⟨exec_handlerInstr_of_reply .xmitStartBit2 (dispatchedReply_highPhase s startPeriodNom (dispatchedReply_driveBit s _ _ .xmitData1)),
    exec_handlerInstr_of_reply .xmitEom2 (dispatchedReply_highPhase s bitPeriodNom (dispatchedReply_driveBit s _ true .xmitAck1))⟩

/-- Settles O45: at the end of the period the advanced cursor decides between the EOM bit and the next data bit. -/
theorem dataPeriodAdvancesTheCursor : Obligations.DataPeriodAdvancesTheCursor := by
  intro s next e last
  let advanced := { s.observed with transmitBitCursor := s.observed.transmitBitCursor + 1 }
  have hnext : next = advanced.transmitBitCursor.toNat := rfl
  have he : e = advanced := by
    have hcursor : BitVec.ofNat 8 next = advanced.transmitBitCursor := by rw [hnext, BitVec.ofNat_toNat, BitVec.setWidth_eq]
    exact congrArg (fun cursor => { s.observed with transmitBitCursor := cursor }) hcursor
  have hlast : last = txIsLastByte advanced := rfl
  rw [he, hlast, hnext]
  exact exec_handlerInstr_of_reply .xmitData2 (dispatchedReply_highPhase s bitPeriodNom
    (dispatchedReply_ite Iff.rfl (dispatchedReply_driveBit s _ _ .xmitEom1) (dispatchedReply_driveBit s _ _ .xmitData1)))

/-- Settles O46: the low phase is held, then released for the sample. -/
theorem ackLowPhaseIsReleasedForTheSample : Obligations.AckLowPhaseIsReleasedForTheSample := fun s =>
  exec_handlerInstr_of_reply .xmitAck1 <| dispatchedReply_ite Iff.rfl rfl
    (dispatchedReply_hold s (lowTime true) (dispatchedReply_wait (remaining_eq ackSample s.inputs s.observed)))

/-- Settles O47: with the verdict of the sampled level the attempt fails, ends or goes on. -/
theorem ackSampleDecidesTheAttempt : Obligations.AckSampleDecidesTheAttempt := by
  intro s e
  refine exec_handlerInstr_of_reply .xmitAckTest <| dispatchedReply_until s ackSample <|
    dispatchedReply_ite (not_ackedAt_iff s.inputs.line e) rfl (dispatchedReply_ite Iff.rfl rfl ?goesOn)
  cases s.inputs.line <;> exact dispatchedReply_wait (remaining_eq bitPeriodNom s.inputs s.observed)

/-- Settles O48: a released line goes on, a line held low to the period's end is a collision. -/
theorem ackWaitEndsAtTheReleaseOrAsACollision : Obligations.AckWaitEndsAtTheReleaseOrAsACollision := fun s =>
  exec_handlerInstr_of_reply .xmitAckWait <|
    dispatchedReply_ite Iff.rfl (dispatchedReply_wait (remaining_eq bitPeriodNom s.inputs s.observed))
      (dispatchedReply_hold s bitPeriodNom rfl)

/-- Settles O49: a low line is a collision at any time of the period, at whose end the next byte starts. -/
theorem ackPeriodLeadsToTheNextSentByte : Obligations.AckPeriodLeadsToTheNextSentByte := fun s =>
  exec_handlerInstr_of_reply .xmitAck2 <| dispatchedReply_ite (iff_of_eq (Bool.not_eq_true' s.inputs.line)) rfl
    (dispatchedReply_hold s bitPeriodNom (dispatchedReply_driveBit s s.observed _ .xmitData1))

/-- Settles O50: the one that holds the line low sees what it drives; past the settle time the other sees a level it does not. -/
theorem theSenderOfAOneLosesArbitration : Obligations.TheSenderOfAOneLosesArbitration := by
  intro loser winner hloser hwinner hdrives hloserLine hwinnerLine hsettled
  have hlow : busOfTwo loser.engine winner.engine = false := by rw [busOfTwo, hdrives, Bool.and_false]
  constructor
  · rw [exec_dispatch_eq_exec_handlerInstr (S := .xmitData2) hloser]
    refine (dataPeriodAdvancesTheCursor loser).trans (congrArg Host.Outcome.next ?_)
    exact if_pos ⟨hloserLine.trans hlow, hsettled⟩
  · rw [exec_dispatch_eq_exec_handlerInstr (S := .xmitData1) hwinner]
    have hline : ¬ winner.inputs.line = true := Bool.eq_false_iff.mp (hwinnerLine.trans hlow)
    obtain ⟨-, hdata, -⟩ := sentLowPhasesLastTheirNominalTime winner
    obtain ⟨hstate, hkept⟩ := lowPhaseOutcome_of_line_low winner (if txBit winner.engine then 600 else 1500) 2400 20 hline
    exact ⟨_, hdata, hwinner ▸ hstate, hkept⟩

end Sys2Proof
end

section
/-! PROOFS (43_transmit.md R202 to R215; 44_arbitration.md R242 to R248). What XmitWait and the transmit handlers leave unchanged beside
`Untouched`: most of it is kept by every handler, the rest in all states but one or unless the frame was an allocator's probe. -/

namespace Sys2Proof.Machine

open Sys2Proof

/-- The counters and flags of a reception (10_state.md R21). -/
def Engine.reception (e : Engine) : BitVec 8 × BitVec 3 × Bool × Bool × Bool :=
  (e.receiveBitCount, e.rxBitPos, e.ack, e.follower, e.broadcast)

/-- What the end of an allocator's probe may write, and no other transmit handler (45_allocator.md R263 to R266). -/
def Engine.claims (e : Engine) : List Byte × Addr × BitVec 16 × List AllocRecord × BitVec 3 × Bool × Bool × Bool :=
  (e.txbuf, e.address, e.logicalAddressMask, e.alloc, e.allocIndex, e.allocActive, e.allocDone, e.probeOwned)

theorem reception_eq_iff (e e' : Engine) : e'.reception = e.reception ↔
    e'.receiveBitCount = e.receiveBitCount ∧ e'.rxBitPos = e.rxBitPos ∧ e'.ack = e.ack ∧ e'.follower = e.follower ∧
      e'.broadcast = e.broadcast := by
  simp only [Engine.reception, Prod.mk.injEq]

theorem claims_eq_iff (e e' : Engine) : e'.claims = e.claims ↔
    e'.txbuf = e.txbuf ∧ e'.address = e.address ∧ e'.logicalAddressMask = e.logicalAddressMask ∧ e'.alloc = e.alloc ∧
      e'.allocIndex = e.allocIndex ∧ e'.allocActive = e.allocActive ∧ e'.allocDone = e.allocDone ∧
      e'.probeOwned = e.probeOwned := by
  simp only [Engine.claims, Prod.mk.injEq]

/-- What the handler of the transmit state `S` keeps of the engine `e`. -/
structure SenderKeeps (S : LinkState) (e e' : Engine) : Prop where
  rxbuf : e'.rxbuf = e.rxbuf
  reception : S ≠ .xmitWait → e'.reception = e.reception
  wasLastTransmitter : S ≠ .xmitAckTest → e'.wasLastTransmitter = e.wasLastTransmitter
  claims : e.probeOwned = false → e'.claims = e.claims
  txbufTail : ∀ k, k ≠ 0 → e'.txbuf[k]? = e.txbuf[k]?

section SenderHandlers

variable (c : Config) (x : Inputs) (e : Engine) (S : LinkState)

theorem SenderKeeps.trans {S : LinkState} {e e' e'' : Engine} (h : SenderKeeps S e e') (h' : SenderKeeps S e' e'') :
    SenderKeeps S e e'' where
  rxbuf := h'.rxbuf.trans h.rxbuf
  reception hS := (h'.reception hS).trans (h.reception hS)
  wasLastTransmitter hS := (h'.wasLastTransmitter hS).trans (h.wasLastTransmitter hS)
  claims ho := by
    obtain ⟨-, -, -, -, -, -, -, howned⟩ := (claims_eq_iff e e').mp (h.claims ho)
    exact (h'.claims (howned.trans ho)).trans (h.claims ho)
  txbufTail k hk := (h'.txbufTail k hk).trans (h.txbufTail k hk)

/-- The bit on the line, its times, `eom`, the retry count and the cursor are what a sender writes within a frame. -/
theorem senderKeeps_bit {S : LinkState} {e : Engine} (state : StateCode) (driveLevel : Bool) (bitStartTime releaseTime : Micros)
    (eom : Bool) (retryCount : BitVec 4) (transmitBitCursor : BitVec 8) :
    SenderKeeps S e
      { e with
        state := state, driveLevel := driveLevel, bitStartTime := bitStartTime, releaseTime := releaseTime, eom := eom,
        retryCount := retryCount, transmitBitCursor := transmitBitCursor } :=
  ⟨rfl, fun _ => rfl, fun _ => rfl, fun _ => rfl, fun _ _ => rfl⟩

theorem senderKeeps_ite {S : LinkState} {e : Engine} {p : Prop} {_ : Decidable p} {r r' : Reply} (h : SenderKeeps S e r.engine)
    (h' : SenderKeeps S e r'.engine) : SenderKeeps S e (if p then r else r').engine :=
  iteInduction (motive := fun r : Reply => SenderKeeps S e r.engine) (fun _ => h) (fun _ => h')

theorem finishTransmit_keeps (ok : Bool) : SenderKeeps S e (finishTransmit c ok e).engine := by
  obtain ⟨hunowned, hengine, -⟩ | ⟨howned, n, e₁, e₂, hresolved, rfl, hengine, -⟩ := finishTransmit_cases c ok e <;> rw [hengine]
  · refine ⟨rfl, fun _ => rfl, fun _ => rfl, fun _ => ?_, fun _ _ => rfl⟩
    rw [Engine.claims, Engine.claims, hunowned]
  · have hsame := hresolved.trans (probeLoop_same c n e₁)
    have hrxbuf := congrArg Engine.rxbuf hsame.eq
    have hreception := congrArg Engine.reception hsame.eq
    have hlast := congrArg Engine.wasLastTransmitter hsame.eq
    exact ⟨hrxbuf, fun _ => hreception, fun _ => hlast, fun hunowned => absurd howned (Bool.eq_false_iff.mp hunowned),
      hsame.txbufTail⟩

theorem transmitFailed_keeps : SenderKeeps S e (transmitFailed c e).engine := by
  obtain ⟨hends, -⟩ | ⟨hretry, -, -⟩ := transmitFailed_cases c e
  · rw [hends]
    exact (senderKeeps_bit ..).trans (finishTransmit_keeps c _ S false)
  · rw [hretry]
    exact senderKeeps_bit ..

theorem collisionAbort_keeps : SenderKeeps S e (collisionAbort c e).engine :=
  (senderKeeps_bit ..).trans (transmitFailed_keeps c (driveLine true e) S)

/-- A handler that looks for a collision first, and waits with the engine as it is until its time has passed (R202 to R209, R213). -/
theorem collisionAbort_else_keeps {S : LinkState} {e : Engine} {p q : Prop} {_ : Decidable p} {_ : Decidable q} {r : Reply}
    {wait : Micros} (h : SenderKeeps S e r.engine) :
    SenderKeeps S e (if p then collisionAbort c e else if q then r else ⟨e, wait, []⟩).engine :=
  senderKeeps_ite (collisionAbort_keeps c e S) (senderKeeps_ite h (senderKeeps_bit ..))

/-- A reception that XmitWait defers to (R242) or a frame that it starts (43_transmit.md R201) writes reception fields. -/
theorem handleXmitWait_keeps : SenderKeeps .xmitWait e (handleXmitWait c x e).engine :=
  senderKeeps_ite ⟨rfl, absurd rfl, fun _ => rfl, fun _ => rfl, fun _ _ => rfl⟩ <| senderKeeps_ite (senderKeeps_bit ..) <|
    senderKeeps_ite ⟨rfl, absurd rfl, fun _ => rfl, fun _ => rfl, fun _ _ => rfl⟩ (senderKeeps_bit ..)

theorem handleXmitStartBit1_keeps : SenderKeeps .xmitStartBit1 e (handleXmitStartBit1 c x e).engine :=
  collisionAbort_else_keeps c (senderKeeps_bit ..)

theorem handleXmitStartBit2_keeps : SenderKeeps .xmitStartBit2 e (handleXmitStartBit2 c x e).engine :=
  collisionAbort_else_keeps c (senderKeeps_bit ..)

theorem handleXmitData1_keeps : SenderKeeps .xmitData1 e (handleXmitData1 c x e).engine :=
  collisionAbort_else_keeps c (senderKeeps_bit ..)

theorem handleXmitData2_keeps : SenderKeeps .xmitData2 e (handleXmitData2 c x e).engine :=
  collisionAbort_else_keeps c (senderKeeps_ite (senderKeeps_bit ..) (senderKeeps_bit ..))

theorem handleXmitEom1_keeps : SenderKeeps .xmitEom1 e (handleXmitEom1 c x e).engine :=
  collisionAbort_else_keeps c (senderKeeps_bit ..)

theorem handleXmitEom2_keeps : SenderKeeps .xmitEom2 e (handleXmitEom2 c x e).engine :=
  collisionAbort_else_keeps c (senderKeeps_bit ..)

theorem handleXmitAck1_keeps : SenderKeeps .xmitAck1 e (handleXmitAck1 c x e).engine :=
  collisionAbort_else_keeps c (senderKeeps_bit ..)

theorem handleXmitAckTest_keeps : SenderKeeps .xmitAckTest e (handleXmitAckTest c x e).engine := by
  have hlast : SenderKeeps .xmitAckTest e { e with wasLastTransmitter := true } :=
    ⟨rfl, fun _ => rfl, absurd rfl, fun _ => rfl, fun _ _ => rfl⟩
  exact senderKeeps_ite (senderKeeps_bit ..) <| senderKeeps_ite (transmitFailed_keeps c e _) <|
    senderKeeps_ite (hlast.trans (finishTransmit_keeps c _ _ true)) (senderKeeps_ite (senderKeeps_bit ..) (senderKeeps_bit ..))

theorem handleXmitAckWait_keeps : SenderKeeps .xmitAckWait e (handleXmitAckWait c x e).engine :=
  senderKeeps_ite (senderKeeps_bit ..) (senderKeeps_ite (collisionAbort_keeps c e _) (senderKeeps_bit ..))

theorem handleXmitAck2_keeps : SenderKeeps .xmitAck2 e (handleXmitAck2 c x e).engine :=
  collisionAbort_else_keeps c (senderKeeps_bit ..)

theorem handlerFor_senderKeeps : ∀ S ∈ transmitStates, SenderKeeps S e (handlerFor S c x e).engine := by
  simp only [transmitStates, List.forall_mem_cons]
  exact ⟨handleXmitWait_keeps c x e, handleXmitStartBit1_keeps c x e, handleXmitStartBit2_keeps c x e, handleXmitData1_keeps c x e,
    handleXmitData2_keeps c x e, handleXmitEom1_keeps c x e, handleXmitEom2_keeps c x e, handleXmitAck1_keeps c x e,
    handleXmitAckTest_keeps c x e, handleXmitAckWait_keeps c x e, handleXmitAck2_keeps c x e, List.forall_mem_nil _⟩

end SenderHandlers

end Sys2Proof.Machine

namespace Sys2Proof

open Sys2Proof.Machine

/-- Settles O56: what a row keeps is what its handler's state keeps. -/
theorem transmitHandlersLeaveTheRestUnchanged : Obligations.TransmitHandlersLeaveTheRestUnchanged := by
  intro i s t hi h
  obtain ⟨S, hS, rfl⟩ : ∃ S ∈ transmitStates, handlerInstr S = i := List.mem_map.mp hi
  cases (exec_handlerInstr S s).symm.trans h
  intro e e'
  have huntouched : Untouched s.observed e' := handlerFor_untouched S s.cfg s.inputs s.observed
  have hkeeps : SenderKeeps S s.observed e' := handlerFor_senderKeeps s.cfg s.inputs s.observed S hS
  have hrow : ∀ S', handlerInstr S ≠ handlerInstr S' → S ≠ S' := fun _ => mt (congrArg handlerInstr)
  refine ⟨hkeeps.rxbuf, huntouched.physAddr, huntouched.allocCount, huntouched.promiscuous, huntouched.monitorMode, rfl,
    samplePorts_command s.ports, ?reception, fun htest => hkeeps.wasLastTransmitter (hrow .xmitAckTest htest), ?claims,
    hkeeps.txbufTail⟩
  case reception => exact fun hwait => (reception_eq_iff s.observed e').mp (hkeeps.reception (hrow .xmitWait hwait))
  case claims =>
    intro (hunowned : s.observed.probeOwned = false)
    exact hunowned ▸ (claims_eq_iff s.observed e').mp (hkeeps.claims hunowned)

end Sys2Proof
end

section
/-! PROOFS (44_arbitration.md R240 to R248). One dispatch in XmitWait, and the two ways an attempt ends: a retry, or the report of the
frame. -/

namespace Sys2Proof.Machine

open Sys2Proof

/-- The idle tiers (R241) in numbers. -/
theorem requiredIdle_toNat (e : Engine) :
    (requiredIdle e).toNat = if e.retryCount ≠ 0 then 7200 else if e.wasLastTransmitter = true then 16800 else 12000 := by
  have hretry : 0 < e.retryCount.toNat ↔ e.retryCount ≠ 0 := Nat.pos_iff_ne_zero.trans (BitVec.toNat_ne_iff_ne (y := 0))
  rw [requiredIdle, apply_ite BitVec.toNat, apply_ite BitVec.toNat]
  exact if_congr hretry rfl rfl

theorem headerDest_beq (header : Byte) (a : Addr) : (headerDest header == a) = decide (header.toNat % 16 = a.toNat) := by
  rw [Bool.eq_iff_iff, beq_iff_eq, decide_eq_true_iff, ← headerDest_toNat, BitVec.toNat_inj]

/-- A handler that leaves `r` once the line has been idle for its tier, and waits for what is left of it before (R242). -/
theorem dispatchedReply_idleTier (s : State) (e : Engine) {r : Reply} {t : State} (h : dispatchedReply s r = t) :
    dispatchedReply s (if requiredIdle e ≤ idleFor s.inputs e then r else ⟨e, requiredIdle e - idleFor s.inputs e, []⟩) =
    if (requiredIdle e).toNat ≤ since s.inputs.now e.lastStateChangeTime then t
    else dispatched s e (micros ((requiredIdle e).toNat - since s.inputs.now e.lastStateChangeTime)) [] := by
  rw [← idleFor_toNat]
  by_cases hover : requiredIdle e ≤ idleFor s.inputs e
  · rw [if_pos hover, if_pos (BitVec.le_def.mp hover), h]
  · have hunder : ¬ (requiredIdle e).toNat ≤ (idleFor s.inputs e).toNat := mt BitVec.le_def.mpr hover
    rw [if_neg hover, if_neg hunder]
    exact dispatchedReply_wait (sub_eq_micros (Nat.le_of_not_le hunder))

/-- `BeginTransmit()` (43_transmit.md R201) -/
theorem dispatchedReply_beginTransmit (s : State) (e : Engine) :
    dispatchedReply s (beginTransmit s.cfg s.inputs e) =
      dispatched s
        { e with
          broadcast := decide ((byteAt e.txbuf 0).toNat % 16 = s.cfg.broadcastAddr.toNat), eom := false, transmitBitCursor := 0,
          driveLevel := false, bitStartTime := s.inputs.now, state := 17 }
        (micros 3700) [] := by
  rw [beginTransmit, headerDest_beq]
  rfl

/-- With no frame left the engine waits in Idle for an edge (42_receive.md R162). -/
theorem idleWait_of_no_frame {e : Engine} (h : e.transmitByteCount = 0) : idleWait e = micros (2 ^ 64 - 1) :=
  if_neg fun ⟨hpending, _⟩ => hpending h

end Sys2Proof.Machine

namespace Sys2Proof

open Sys2Proof.Machine

/-- Settles O51: an attempt ends the frame under one of the two conditions, and is retried under neither. -/
theorem aFailedAttemptIsRetriedOrEndsTheFrame : Obligations.AFailedAttemptIsRetriedOrEndsTheFrame := by
  intro c e
  obtain ⟨hends, hlast⟩ | ⟨hretry, hlong, hmore⟩ := transmitFailed_cases c e
  · rw [if_pos hlast, hends]
  · rw [if_neg (not_or_intro hlong (Nat.not_le_of_lt hmore)), hretry]

/-- Settles O52: only a probe's verdict goes to the allocator; without one no frame is left to send. -/
theorem aFinishedFrameIsReportedOnceAndEmptied : Obligations.AFinishedFrameIsReportedOnceAndEmptied := by
  intro c ok e frame emptied resolved
  split
  next howned =>
    have hreport : finishTransmit c ok e = returnToIdle resolved.1 (.transmitComplete frame ok :: resolved.2) := by
      simp only [finishTransmit, if_pos howned]
      rfl
    exact hreport.trans (returnToIdle_eq _ _)
  next hunowned =>
    have hreport : finishTransmit c ok e = returnToIdle emptied [.transmitComplete frame ok] := by
      simp only [finishTransmit, if_neg hunowned]
      rfl
    have hidle : idleWait emptied = micros (2 ^ 64 - 1) := idleWait_of_no_frame rfl
    rw [hreport, returnToIdle_eq, hidle]

/-- Settles O42: a falling edge, a low line, or a line that has been idle for its tier or not yet. -/
theorem xmitWaitStartsAFrameAfterItsIdleTier : Obligations.XmitWaitStartsAFrameAfterItsIdleTier := by
  intro s e idle required
  have hrequired : required = (requiredIdle e).toNat := (requiredIdle_toNat e).symm
  have hlow : (!s.inputs.line) = true ↔ s.inputs.line = false := iff_of_eq (Bool.not_eq_true' s.inputs.line)
  rw [hrequired]
  exact exec_handlerInstr_of_reply .xmitWait <| dispatchedReply_ite Iff.rfl rfl <| dispatchedReply_ite hlow rfl <|
    dispatchedReply_idleTier s e (dispatchedReply_beginTransmit s e)

end Sys2Proof
end

section
/-! PROOFS (45_allocator.md R263 to R267). The closed form of `ProbeCurrent`'s loop: it skips the exhausted records one by one, then loads
a probe or finishes. -/

namespace Sys2Proof.Machine

open Sys2Proof

/-! ### The records after a stretch of fallbacks -/

/-- The records `i` to `k - 1` assigned the sentinel (R265), the others as they were. -/
def fallBackRecords (c : Config) (i k : Nat) (records : List AllocRecord) : List AllocRecord :=
  records.mapIdx fun j r => if i ≤ j ∧ j < k then { r with assigned := c.unregisteredAddr.setWidth 5 } else r

section Records

variable (c : Config) {i k : Nat} (records : List AllocRecord)

theorem getElem?_fallBackRecords (j : Nat) : (fallBackRecords c i k records)[j]? =
    records[j]?.map fun r => if i ≤ j ∧ j < k then { r with assigned := c.unregisteredAddr.setWidth 5 } else r :=
  List.getElem?_mapIdx

theorem getElem?_fallBackRecords_of_outside {j : Nat} (hj : ¬ (i ≤ j ∧ j < k)) :
    (fallBackRecords c i k records)[j]? = records[j]? := by
  simp only [getElem?_fallBackRecords, if_neg hj, Option.map_id']

theorem fallBackRecords_self : fallBackRecords c i i records = records :=
  List.ext_getElem? fun _ => getElem?_fallBackRecords_of_outside c records (by omega)

/-- One more record falls back: the next one is written. -/
theorem fallBackRecords_succ (hik : i ≤ k) : fallBackRecords c i (k + 1) records =
    (fallBackRecords c i k records).set k
      { records.getD k AllocRecord.unused with assigned := c.unregisteredAddr.setWidth 5 } := by
  refine List.ext_getElem? fun j => ?_
  rw [List.getElem?_set']
  split
  next hjk =>
    subst hjk
    have hwritten : i ≤ k ∧ k < k + 1 := ⟨hik, k.lt_succ_self⟩
    rw [getElem?_fallBackRecords, getElem?_fallBackRecords_of_outside c records (by omega)]
    cases hk : records[k]? with
    | none => rfl
    | some r => simp [hwritten, List.getD_eq_getElem?_getD, hk]
  next hjk =>
    have hsame : i ≤ j ∧ j < k + 1 ↔ i ≤ j ∧ j < k := by omega
    simp only [getElem?_fallBackRecords, hsame]

end Records

/-- The engine when the records from the index up to `k` have fallen back (R265). -/
def fallBack (c : Config) (k : Nat) (e : Engine) : Engine :=
  { e with alloc := fallBackRecords c e.allocIndex.toNat k e.alloc, allocIndex := BitVec.ofNat 3 k }

/-- Record `j` has no candidate left (R263). -/
abbrev ExhaustedAt (c : Config) (e : Engine) (j : Nat) : Prop :=
  (candidatesOf c (allocAt e j).devType).length ≤ (allocAt e j).cursor.toNat

section Loop

variable {c : Config} {e : Engine}

theorem fallBack_at_index : fallBack c e.allocIndex.toNat e = e := by
  rw [fallBack, fallBackRecords_self, BitVec.ofNat_toNat, BitVec.setWidth_eq]

theorem fallBack_allocIndex {k : Nat} (hk : k ≤ e.allocCount.toNat) : (fallBack c k e).allocIndex.toNat = k :=
  Nat.mod_eq_of_lt (Nat.lt_of_le_of_lt hk e.allocCount.isLt)

theorem allocAt_fallBack {j k : Nat} (hkj : k ≤ j) : allocAt (fallBack c k e) j = allocAt e j := by
  have houtside : ¬ (e.allocIndex.toNat ≤ j ∧ j < k) := fun h => absurd h.2 (Nat.not_lt_of_le hkj)
  simp only [allocAt, fallBack, List.getD_eq_getElem?_getD, getElem?_fallBackRecords_of_outside c e.alloc houtside]

/-- The sentinel is claimed in the record and not in the mask (R265). -/
theorem claim_fallBack {k : Nat} (hik : e.allocIndex.toNat ≤ k) (hk : k ≤ e.allocCount.toNat) :
    claim c c.unregisteredAddr (fallBack c k e) = fallBack c (k + 1) e := by
  have hnext : BitVec.ofNat 3 k + 1 = BitVec.ofNat 3 (k + 1) := (BitVec.ofNat_add k 1).symm
  rw [claim, if_pos rfl, fallBack_allocIndex hk, allocAt_fallBack le_rfl, fallBack, fallBack, hnext,
    fallBackRecords_succ c e.alloc hik, allocAt]

/-! ### One pass of the loop -/

/-- With a record left the loop makes a pass: the fallback, or a probe (R263). -/
theorem probeCurrent_pass (hleft : e.allocIndex.toNat < e.allocCount.toNat) : probeCurrent c e =
    if ExhaustedAt c e e.allocIndex.toNat then probeCurrent c (claim c c.unregisteredAddr e)
    else
      (loadProbe (candidateAt c (allocAt e e.allocIndex.toNat).devType (allocAt e e.allocIndex.toNat).cursor.toNat) e, []) := by
  have hcount := e.allocCount.isLt
  have hindex : (e.allocIndex + 1).toNat = e.allocIndex.toNat + 1 := Nat.mod_eq_of_lt (Nat.lt_of_le_of_lt hleft hcount)
  have hrecords : e.allocCount.toNat - e.allocIndex.toNat = e.allocCount.toNat - (e.allocIndex.toNat + 1) + 1 := by omega
  rw [probeCurrent, probeCurrent, hrecords, claim_allocCount, claim_allocIndex, hindex]
  rfl

theorem probeCurrent_exhausted (hleft : e.allocIndex.toNat < e.allocCount.toNat) (hex : ExhaustedAt c e e.allocIndex.toNat) :
    probeCurrent c e = probeCurrent c (claim c c.unregisteredAddr e) := by
  rw [probeCurrent_pass hleft, if_pos hex]

theorem probeCurrent_loads {a : Addr} (hleft : e.allocIndex.toNat < e.allocCount.toNat)
    (ha : (candidatesOf c (allocAt e e.allocIndex.toNat).devType)[(allocAt e e.allocIndex.toNat).cursor.toNat]? = some a) :
    probeCurrent c e = (loadProbe a e, []) := by
  have hopen : ¬ ExhaustedAt c e e.allocIndex.toNat := Nat.not_le_of_lt (List.getElem?_eq_some_iff.mp ha).1
  rw [probeCurrent_pass hleft, if_neg hopen, candidateAt_of_getElem? ha]

theorem probeCurrent_finishes (hnone : e.allocCount.toNat ≤ e.allocIndex.toNat) :
    probeCurrent c e = (finishAllocation e, [.ready (primaryAddress e)]) := by
  rw [probeCurrent, Nat.sub_eq_zero_of_le hnone, probeLoop]

/-! ### The whole loop -/

/-- The loop skips exhausted records: it is the loop from the engine where they have fallen back. -/
theorem probeCurrent_fallBack {k : Nat} (hik : e.allocIndex.toNat ≤ k) (hk : k ≤ e.allocCount.toNat)
    (hex : ∀ j, e.allocIndex.toNat ≤ j → j < k → ExhaustedAt c e j) : probeCurrent c e = probeCurrent c (fallBack c k e) := by
  induction k, hik using Nat.le_induction with
  | base => rw [fallBack_at_index]
  | succ k hik ih =>
    have hindex : (fallBack c k e).allocIndex.toNat = k := fallBack_allocIndex (Nat.le_of_lt hk)
    have hnext : ExhaustedAt c (fallBack c k e) k := by
      rw [ExhaustedAt, allocAt_fallBack le_rfl]
      exact hex k hik k.lt_succ_self
    calc probeCurrent c e
      _ = probeCurrent c (fallBack c k e) := ih (Nat.le_of_lt hk) fun j hj hjk => hex j hj (Nat.lt_succ_of_lt hjk)
      _ = probeCurrent c (claim c c.unregisteredAddr (fallBack c k e)) :=
        probeCurrent_exhausted (hindex.trans_lt hk) (hindex.symm ▸ hnext)
      _ = probeCurrent c (fallBack c (k + 1) e) := by rw [claim_fallBack hik (Nat.le_of_lt hk)]

/-- The first record with a candidate left is probed. -/
theorem probeCurrent_first_open {k : Nat} {a : Addr} (hik : e.allocIndex.toNat ≤ k) (hk : k < e.allocCount.toNat)
    (hex : ∀ j, e.allocIndex.toNat ≤ j → j < k → ExhaustedAt c e j)
    (ha : (candidatesOf c (allocAt e k).devType)[(allocAt e k).cursor.toNat]? = some a) :
    probeCurrent c e = (loadProbe a (fallBack c k e), []) := by
  have hindex : (fallBack c k e).allocIndex.toNat = k := fallBack_allocIndex (Nat.le_of_lt hk)
  rw [probeCurrent_fallBack hik (Nat.le_of_lt hk) hex]
  refine probeCurrent_loads (hindex.trans_lt hk) ?_
  rw [hindex, allocAt_fallBack le_rfl]
  exact ha

/-- With every record exhausted the run ends. -/
theorem probeCurrent_all_exhausted (hi : e.allocIndex.toNat ≤ e.allocCount.toNat)
    (hex : ∀ j, e.allocIndex.toNat ≤ j → j < e.allocCount.toNat → ExhaustedAt c e j) :
    probeCurrent c e = (finishAllocation (fallBack c e.allocCount.toNat e),
      [.ready (primaryAddress (fallBack c e.allocCount.toNat e))]) := by
  rw [probeCurrent_fallBack hi le_rfl hex]
  have hindex : (fallBack c e.allocCount.toNat e).allocIndex.toNat = e.allocCount.toNat := fallBack_allocIndex le_rfl
  exact probeCurrent_finishes hindex.ge

end Loop

end Sys2Proof.Machine

namespace Sys2Proof

open Sys2Proof.Machine

/-- Settles O53: the claim is of the candidate the cursor points at. -/
theorem aProbeOutcomeMovesOnOrClaims : Obligations.AProbeOutcomeMovesOnOrClaims := by
  intro c e k r
  refine ⟨rfl, fun a ha => ?_⟩
  have hclaims : allocatorResolve c false e = probeCurrent c (claim c (candidateAt c r.devType r.cursor.toNat) e) := rfl
  rw [hclaims, candidateAt_of_getElem? ha, claim, claimInMask_eq, BitVec.ofNat_toNat]

/-- Settles O54: the exhausted records are skipped first; then a record has a candidate left, or none is left. -/
theorem probingSkipsExhaustedRecordsOrFinishes : Obligations.ProbingSkipsExhaustedRecordsOrFinishes := by
  intro c e hi exhausted fallenBack
  have hrecords : ∀ k, fallenBack k = fallBackRecords c e.allocIndex.toNat k e.alloc := fun k => by
    simp only [fallenBack, BitVec.ofNat_toNat, fallBackRecords]
  constructor
  · intro k a hik hk hex ha
    rw [probeCurrent_first_open hik hk hex ha, hrecords, ← headerByte_eq]
    rfl
  · intro hex alloc primary
    have halloc : alloc = (fallBack c e.allocCount.toNat e).alloc := hrecords _
    have hprimary : primary = primaryAddress (fallBack c e.allocCount.toNat e) := by
      simp only [primary, halloc, BitVec.ofNat_toNat]
      rfl
    have hcount : BitVec.ofNat 3 e.allocCount.toNat = e.allocCount := by rw [BitVec.ofNat_toNat, BitVec.setWidth_eq]
    rw [probeCurrent_all_exhausted hi hex, hprimary, halloc, finishAllocation, fallBack, hcount]

end Sys2Proof
end

section
/-! PROOFS (46_host_interface.md R280 to R287). The step, and the whole answers of CONFIGURE, SET_PHYS and READ_STATUS: the first check
that fails or the engine set up, and the fields of the two status words. -/

namespace Sys2Proof.Machine

open Sys2Proof

/-! ### CONFIGURE (R281) -/

/-- R102 on the operands of CONFIGURE, with the type fields by their number. -/
theorem configureOk_eq_false_iff (maxTypes : Nat) (ntypes : BitVec 3) (t0 t1 t2 t3 : DevType) :
    configureOk maxTypes ntypes t0 t1 t2 t3 = false ↔
      maxTypes < ntypes.toNat ∨ ∃ i : Fin 4, ntypes.toNat ≤ i.val ∧ [t0, t1, t2, t3].getD i.val 0 ≠ 0 := by
  have hunused : (∃ i : Fin 4, ntypes.toNat ≤ i.val ∧ [t0, t1, t2, t3].getD i.val 0 ≠ 0) ↔
      (ntypes.toNat ≤ 0 ∧ t0 ≠ 0) ∨ (ntypes.toNat ≤ 1 ∧ t1 ≠ 0) ∨ (ntypes.toNat ≤ 2 ∧ t2 ≠ 0) ∨
        (ntypes.toNat ≤ 3 ∧ t3 ≠ 0) := by
    simp only [Fin.exists_fin_succ, IsEmpty.exists_iff, or_false]
    rfl
  rw [← Bool.not_eq_true, configureOk_eq_true_iff, hunused]
  simp only [not_and_or, not_or, Nat.not_le, Nat.not_lt, ne_eq]

/-- `AllocationEnabled()` (45_allocator.md R261) -/
theorem allocationEnabled_iff (c : Config) (e : Engine) : allocationEnabled c e = true ↔
    e.physAddr ≠ c.noPhysAddr ∧ e.monitorMode = false ∧ 0 < e.allocCount.toNat := by
  simp only [allocationEnabled, Bool.and_eq_true, bne_iff_ne, Bool.not_eq_true', decide_eq_true_eq, and_assoc]

/-- CONFIGURE answers by the first check of R281 that fails; past them it sets the engine up, and starts a run where one is enabled. -/
theorem execConfigure_eq (laddr : Addr) (prom mon : Bool) (ntypes : BitVec 3) (t0 t1 t2 t3 : DevType) (s : State) :
    execConfigure laddr prom mon ntypes t0 t1 t2 t3 s = .next (
      if s.cfg.maxDeviceTypes < ntypes.toNat ∨ (∃ i : Fin 4, ntypes.toNat ≤ i.val ∧ [t0, t1, t2, t3].getD i.val 0 ≠ 0) then
        rejectWith .encoding s
      else if s.engine.state ≠ LinkState.idle.code ∨ s.engine.transmitByteCount ≠ 0 then rejectWith .busy s
      else
        let e := configured s.cfg laddr prom mon ntypes t0 t1 t2 t3 s.engine
        if e.physAddr ≠ s.cfg.noPhysAddr ∧ e.monitorMode = false ∧ 0 < e.allocCount.toNat then
          acceptWith (startAllocation s.cfg e).1 (startAllocation s.cfg e).2 s
        else acceptWith e [] s) := by
  have haccept (p : Prop) [Decidable p] (run run' : Engine × List Event) :
      acceptWith (if p then run else run').1 (if p then run else run').2 s =
        if p then acceptWith run.1 run.2 s else acceptWith run'.1 run'.2 s :=
    apply_ite (fun r : Engine × List Event => acceptWith r.1 r.2 s) p run run'
  simp only [execConfigure, Bool.not_eq_true', configureOk_eq_false_iff, allocationEnabled_iff, haccept, apply_ite Host.Outcome.next]

/-! ### The status words (10_state.md R45, R46) -/

section StatusWords

variable (e : Engine)

theorem status0_fields :
    bits (status0 e) 0 5 = e.state ∧ bit (status0 e) 5 = e.eom ∧ bit (status0 e) 6 = e.ack ∧ bit (status0 e) 7 = e.follower ∧
      bit (status0 e) 8 = e.broadcast ∧ bit (status0 e) 9 = e.wasLastTransmitter ∧ bit (status0 e) 10 = e.promiscuous ∧
      bit (status0 e) 11 = e.monitorMode ∧ bit (status0 e) 12 = e.driveLevel ∧ bit (status0 e) 13 = e.lastLineState ∧
      bit (status0 e) 14 = e.allocActive ∧ bit (status0 e) 15 = e.allocDone ∧ bits (status0 e) 16 4 = e.address ∧
      bits (status0 e) 20 4 = e.retryCount ∧ bits (status0 e) 24 5 = e.transmitByteCount ∧ bits (status0 e) 29 3 = e.allocIndex := by
  have := e.state.isLt
  have := e.eom.toNat_lt
  have := e.ack.toNat_lt
  have := e.follower.toNat_lt
  have := e.broadcast.toNat_lt
  have := e.wasLastTransmitter.toNat_lt
  have := e.promiscuous.toNat_lt
  have := e.monitorMode.toNat_lt
  have := e.driveLevel.toNat_lt
  have := e.lastLineState.toNat_lt
  have := e.allocActive.toNat_lt
  have := e.allocDone.toNat_lt
  have := e.address.isLt
  have := e.retryCount.isLt
  have := e.transmitByteCount.isLt
  have := e.allocIndex.isLt
  simp only [bits_eq_iff, bit_eq_iff, status0, BitVec.toNat_ofNat]
  and_intros <;> omega

theorem status1_fields :
    bits (status1 e) 0 16 = e.logicalAddressMask ∧ bits (status1 e) 16 8 = e.receiveBitCount ∧
      bits (status1 e) 24 8 = e.transmitBitCursor := by
  have := e.logicalAddressMask.isLt
  have := e.receiveBitCount.isLt
  have := e.transmitBitCursor.isLt
  simp only [bits_eq_iff, status1, BitVec.toNat_ofNat]
  omega

end StatusWords

end Sys2Proof.Machine

namespace Sys2Proof

open Sys2Proof.Machine

/-- Settles O6: a step runs what the decoder answers. -/
theorem stepRunsTheDecodedCommand : Obligations.StepRunsTheDecodedCommand :=
  fun _ _ _ _ h => step_of_decodeBytes h

/-- Settles O27: the checks of CONFIGURE in their order, then the run it starts where allocation is enabled. -/
theorem configureSetsTheEngineUpAndStartsAllocation : Obligations.ConfigureSetsTheEngineUpAndStartsAllocation :=
  fun s laddr prom mon n t0 t1 t2 t3 => execConfigure_eq laddr prom mon n t0 t1 t2 t3 s

/-- Settles O28: SET_PHYS has no check, so its one arm is the whole answer. -/
theorem setPhysWritesThePhysicalAddressOnly : Obligations.SetPhysWritesThePhysicalAddressOnly := fun _ _ => rfl

/-- Settles O30: the word answered is the one `SEL` names. -/
theorem readStatusAnswersTheStatusWords : Obligations.ReadStatusAnswersTheStatusWords
  | s, false => ⟨status0 s.engine, rfl, fun _ => status0_fields s.engine, nofun⟩
  | s, true => ⟨status1 s.engine, rfl, nofun, fun _ => status1_fields s.engine⟩

end Sys2Proof
end

section
/-! PROOFS (46_host_interface.md R283). What a dispatch leaves whichever handler it ran: the level and the date of the last edge as
sampled, the driven port and the answer. -/

namespace Sys2Proof.Machine

open Sys2Proof

section Sampling

variable (s : State)

/-- The reading the next DISPATCH takes: the first listed one, or the present one (notes/assumptions/4.md). -/
def State.nextReading : Reading := s.ports.upcoming.headD ⟨s.ports.line, s.ports.clock⟩

theorem inputs_line : s.inputs.line = s.nextReading.line := congrArg Ports.line (samplePorts_eq s.ports)

theorem inputs_now : s.inputs.now = s.nextReading.now := congrArg Ports.clock (samplePorts_eq s.ports)

theorem inputs_changed : s.inputs.changed = (s.nextReading.line != s.engine.lastLineState) :=
  congrArg (· != s.engine.lastLineState) (inputs_line s)

/-- An edge is dated with the reading; without one the date of the last edge stays. -/
theorem observed_lastStateChangeTime : s.observed.lastStateChangeTime =
    if s.nextReading.line = s.engine.lastLineState then s.engine.lastStateChangeTime else s.nextReading.now := by
  rw [State.observed, observe_lastStateChangeTime, inputs_changed, inputs_now]
  simp only [bne_iff_ne, ite_not]

theorem runHandler_ports (h : Config → Inputs → Engine → Reply) : (runHandler h s).ports =
    { line := s.nextReading.line, clock := s.nextReading.now, drive := (runHandler h s).engine.driveLevel,
      upcoming := s.ports.upcoming.tail, command := s.ports.command } :=
  congrArg (fun p : Ports => { p with drive := (runHandler h s).engine.driveLevel }) (samplePorts_eq s.ports)

end Sampling

end Sys2Proof.Machine

namespace Sys2Proof

open Sys2Proof.Machine

/-- Settles O9: both hints run the handler of the state, which writes neither the sampled level nor the date of the last edge. -/
theorem dispatchSamplesDrivesAndAnswers : Obligations.DispatchSamplesDrivesAndAnswers := by
  intro s hint hlegal seen
  obtain ⟨S, hS⟩ := exists_code_of_isLegal hlegal
  have huntouched := handlerFor_untouched S s.cfg s.inputs s.observed
  exact ⟨runHandler (handlerFor S) s, _, _, exec_dispatch_code S hint s hS, exec_dispatch_code S (!hint) s hS,
    huntouched.lastLineState.trans (inputs_line s), huntouched.lastStateChangeTime.trans (observed_lastStateChangeTime s),
    runHandler_ports s (handlerFor S), rfl, rfl⟩

end Sys2Proof
end

section
/-! PROOFS (46_host_interface.md R285). The events of each command: a handler emits at most one, or the two at the end of an allocation
run; of the other commands only CONFIGURE emits any. -/

namespace Sys2Proof.Machine

open Sys2Proof

/-! ### The events of a handler -/

/-- The events R285 allows in the reply of a handler on the engine `e`. -/
inductive EventsAllowed (e : Engine) (r : Reply) : Prop
  | none (events : r.events = [])
  | one (event : Event) (events : r.events = [event])
  | endOfRun (frame : List Byte) (ok : Bool) (a : Addr) (events : r.events = [.transmitComplete frame ok, .ready a])
      (owned : e.probeOwned = true) (stopped : r.engine.allocActive = false) (done : r.engine.allocDone = true)

section HandlersEmit

variable (c : Config) (x : Inputs) (e : Engine)

theorem EventsAllowed.ite {e : Engine} {p : Prop} {_ : Decidable p} {r r' : Reply} (h : EventsAllowed e r) (h' : EventsAllowed e r') :
    EventsAllowed e (if p then r else r') :=
  iteInduction (fun _ => h) (fun _ => h')

/-- A choice between two replies without events. -/
theorem EventsAllowed.none_ite {e : Engine} {p : Prop} {_ : Decidable p} {r r' : Reply} (h : r.events = []) (h' : r'.events = []) :
    EventsAllowed e (if p then r else r') :=
  .ite (.none h) (.none h')

theorem enterLineError_eventsAllowed : EventsAllowed e (enterLineError c x e) := .none_ite rfl rfl

theorem awaitFall_eventsAllowed : EventsAllowed e (awaitFall c x e) := .none_ite rfl rfl

/-- A completed frame (42_receive.md R186) is delivered once or not at all. -/
theorem returnToIdle_completeFrame_eventsAllowed (e' : Engine) : EventsAllowed e (returnToIdle e' (completeFrame e')) := by
  cases hinvolved : e'.follower || e'.broadcast || e'.promiscuous with
  | false => exact .none (if_neg (Bool.eq_false_iff.mp hinvolved))
  | true => exact .one _ (if_pos hinvolved)

/-- The end of a frame (44_arbitration.md R248) reports it, and READY follows only where it resolved the last probe of a run. -/
theorem finishTransmit_eventsAllowed (ok : Bool) {e' : Engine} (h : e'.probeOwned = e.probeOwned) :
    EventsAllowed e (finishTransmit c ok e') := by
  obtain ⟨-, -, hevents⟩ | ⟨howned, n, e₁, -, -, rfl, hengine, hevents⟩ := finishTransmit_cases c ok e'
  · exact .one _ hevents
  · obtain ⟨hprobes, -, -⟩ | ⟨hready, hstopped, hdone⟩ := probeLoop_events c n e₁
    · exact .one _ (hevents.trans (congrArg _ hprobes))
    · exact .endOfRun _ _ _ (hevents.trans (congrArg _ hready)) (h.symm.trans howned) (hengine ▸ hstopped) (hengine ▸ hdone)

theorem transmitFailed_eventsAllowed {e' : Engine} (h : e'.probeOwned = e.probeOwned) : EventsAllowed e (transmitFailed c e') := by
  obtain ⟨hends, -⟩ | ⟨hretry, -, -⟩ := transmitFailed_cases c e'
  · exact hends ▸ finishTransmit_eventsAllowed c e false h
  · exact .none (congrArg Reply.events hretry)

theorem transmitSucceeded_eventsAllowed : EventsAllowed e (transmitSucceeded c e) :=
  finishTransmit_eventsAllowed c e true (e' := { e with wasLastTransmitter := true }) rfl

/-- A transmit handler that looks for a collision first (43_transmit.md R214, R215). -/
theorem collisionAbort_else_eventsAllowed {e : Engine} {p : Prop} {_ : Decidable p} {r : Reply} (h : EventsAllowed e r) :
    EventsAllowed e (if p then collisionAbort c e else r) :=
  .ite (transmitFailed_eventsAllowed c e rfl) h

/-- Each row follows the branches of the handler's rule. -/
theorem handlerFor_eventsAllowed : ∀ S, EventsAllowed e (handlerFor S c x e)
  | .idle => .ite (.none rfl) (.none_ite rfl rfl)
  | .rcvStartBit1 => .ite (.none_ite rfl rfl) (.none rfl)
  | .rcvStartBit2 => .ite (.none_ite rfl rfl) (awaitFall_eventsAllowed c x e)
  | .rcvData1 | .rcvEom1 | .rcvLineError => .none_ite rfl rfl
  | .rcvData2 | .rcvAck2 => .ite (.ite (.none rfl) (enterLineError_eventsAllowed c x e)) (awaitFall_eventsAllowed c x e)
  | .rcvEom2 => .ite (.ite (.none_ite rfl rfl) (enterLineError_eventsAllowed c x e)) (awaitFall_eventsAllowed c x e)
  | .rcvAck1 => .ite (.ite (returnToIdle_completeFrame_eventsAllowed e _) (.none_ite rfl rfl)) (.none rfl)
  | .rcvAckSent => .ite (.ite (returnToIdle_completeFrame_eventsAllowed e _) (.none rfl)) (.none rfl)
  | .xmitWait => .ite (.none rfl) (.ite (.none rfl) (.none_ite rfl rfl))
  | .xmitStartBit1 | .xmitStartBit2 | .xmitData1 | .xmitEom1 | .xmitEom2 | .xmitAck1 | .xmitAck2 =>
    collisionAbort_else_eventsAllowed c (.none_ite rfl rfl)
  | .xmitData2 => collisionAbort_else_eventsAllowed c (.ite (.none_ite rfl rfl) (.none rfl))
  | .xmitAckTest =>
    .ite (.none rfl) <| .ite (transmitFailed_eventsAllowed c e rfl) <|
      .ite (transmitSucceeded_eventsAllowed c e) (.none_ite rfl rfl)
  | .xmitAckWait => .ite (.none rfl) (collisionAbort_else_eventsAllowed c (.none rfl))

end HandlersEmit

/-! ### The events of the other commands -/

section CommandsEmit

variable {s t : State}

theorem startAllocation_events (c : Config) (e : Engine) :
    (startAllocation c e).2 = [] ∨ ∃ a, (startAllocation c e).2 = [.ready a] ∧ (startAllocation c e).1.allocDone = true :=
  (probeLoop_events c _ _).imp (fun ⟨hnone, _⟩ => hnone) fun ⟨hready, _, hdone⟩ => ⟨_, hready, hdone⟩

theorem execConfigure_events {laddr : Addr} {prom mon : Bool} {ntypes : BitVec 3} {t0 t1 t2 t3 : DevType}
    (h : execConfigure laddr prom mon ntypes t0 t1 t2 t3 s = .next t) :
    t.events = [] ∨ ∃ a, t.events = [.ready a] ∧ t.engine.allocDone = true := by
  obtain ⟨-, h'⟩ | ⟨-, h'⟩ | ⟨-, -, -, e, run, -, hrun, h'⟩ :=
    execConfigure_cases laddr prom mon ntypes t0 t1 t2 t3 s <;> cases h'.symm.trans h
  · exact .inl rfl
  · exact .inl rfl
  · show run.2 = [] ∨ ∃ a, run.2 = [.ready a] ∧ run.1.allocDone = true
    rw [hrun]
    split
    · exact startAllocation_events s.cfg e
    · exact .inl rfl

theorem execTxEnqueue_events {srcSelf : Bool} {src dst : Addr} {payload : List Byte}
    (h : execTxEnqueue srcSelf src dst payload s = .next t) : t.events = [] := by
  obtain ⟨r, h'⟩ | ⟨-, -, -, -, h'⟩ := execTxEnqueue_cases srcSelf src dst payload s <;> cases h'.symm.trans h <;> rfl

/-- Every host command but DISPATCH and CONFIGURE answers without events. -/
theorem exec_command_events {i : Instr} (hi : i.isCommand = true) (hd : ∀ hint, i ≠ .dispatch hint)
    (hc : ∀ a p m n t0 t1 t2 t3, i ≠ .configure a p m n t0 t1 t2 t3) (h : exec i s = .next t) : t.events = [] :=
  match i, hi with
  | .configure .., _ => absurd rfl (hc _ _ _ _ _ _ _ _)
  | .setPhys _, _ => by cases h; rfl
  | .txEnqueue .., _ => execTxEnqueue_events h
  | .dispatch hint, _ => absurd rfl (hd hint)
  | .readStatus _, _ => by cases h; rfl
  | .reservedOpcode .., _ => by cases h; rfl

end CommandsEmit

end Sys2Proof.Machine

namespace Sys2Proof

open Sys2Proof.Machine

/-- Settles O20: a handler's events are those R285 allows, CONFIGURE's those of the run it starts, and no other command has any. -/
theorem eventsOfACommandFollowTheRules : Obligations.EventsOfACommandFollowTheRules := by
  refine ⟨fun s t hint h => ?_, fun _ _ _ _ _ _ _ _ _ _ h => execConfigure_events h,
    fun _ _ _ hi hd hc h => exec_command_events hi hd hc h⟩
  obtain ⟨S, -, rfl⟩ := exec_dispatch_next h
  cases handlerFor_eventsAllowed s.cfg s.inputs s.observed S with
  | none events => exact .inl ((congrArg List.length events).trans_le (Nat.zero_le 1))
  | one event events => exact .inl (congrArg List.length events).le
  | endOfRun frame ok a events owned stopped done => exact .inr ⟨frame, ok, a, events, owned, stopped, done⟩

end Sys2Proof
end

section
/-! PROOFS (60_exceptions.md R302, R311). What a step can end in: a next state, or the fault of a dispatch in a reserved state code; and
that it leaves the machine alone while no whole command stands on the port. -/

namespace Sys2Proof.Machine

open Sys2Proof

/-! ### Completion and the one fault (R302) -/

section Completion

variable {i : Instr} {s : State}

theorem execConfigure_safe (laddr : Addr) (prom mon : Bool) (ntypes : BitVec 3) (t0 t1 t2 t3 : DevType) :
    Safe (execConfigure laddr prom mon ntypes t0 t1 t2 t3 s) := by
  obtain ⟨-, h⟩ | ⟨-, h⟩ | ⟨-, -, -, _, _, -, -, h⟩ := execConfigure_cases laddr prom mon ntypes t0 t1 t2 t3 s <;>
    exact ⟨_, h⟩

theorem execTxEnqueue_safe (srcSelf : Bool) (src dst : Addr) (payload : List Byte) :
    Safe (execTxEnqueue srcSelf src dst payload s) := by
  obtain ⟨_, h⟩ | ⟨-, -, -, -, h⟩ := execTxEnqueue_cases srcSelf src dst payload s <;> exact ⟨_, h⟩

/-- Of the host commands only a DISPATCH can fail to complete, and then for a reserved code in `state`. -/
theorem exec_command_safe_or_faults (hi : i.isCommand = true) :
    Safe (exec i s) ∨ (¬ isLegal s.engine.state ∧ exec i s = .fault .reservedState) :=
  match i, hi with
  | .configure .., _ => .inl (execConfigure_safe ..)
  | .setPhys _, _ => .inl ⟨_, rfl⟩
  | .txEnqueue .., _ => .inl (execTxEnqueue_safe ..)
  | .dispatch hint, _ => (exec_dispatch_cases hint s).imp (fun ⟨_, _, hrun⟩ => ⟨_, hrun⟩) id
  | .readStatus _, _ => .inl ⟨_, rfl⟩
  | .reservedOpcode .., _ => .inl ⟨_, rfl⟩

theorem step_safe_or_faults (s : State) : Safe (step s) ∨ (¬ isLegal s.engine.state ∧ step s = .fault .reservedState) := by
  obtain ⟨-, -, hnone⟩ | ⟨i, rest, -, hcommand, hrun⟩ := step_cases s
  · exact .inl ⟨s, hnone⟩
  · rw [hrun, ← withCommandBytes_engine s rest]
    exact exec_command_safe_or_faults hcommand

end Completion

/-! ### No whole command (R311) -/

theorem step_of_decodeBytes_error {s : State} {err : DecodeError}
    (h : decodeBytes s.cfg.maxDeviceTypes s.ports.command = .error err) : step s = .next s := by
  rw [step, h]

theorem decodeBytes_of_length_lt_four (maxTypes : Nat) {bytes : List Byte} (h : bytes.length < 4) :
    decodeBytes maxTypes bytes = .error .incomplete := by
  match bytes, h with
  | [], _ | [_], _ | [_, _], _ | [_, _, _], _ => rfl

theorem decodeBytes_of_payload_missing (maxTypes : Nat) {w : Word} {bytes : List Byte} (h : bytes.length < payloadLength w) :
    decodeBytes maxTypes (bytesOfWord w ++ bytes) = .error .incomplete := by
  rw [decodeBytes_bytesOfWord, if_pos h]

end Sys2Proof.Machine

namespace Sys2Proof

open Sys2Proof.Machine

/-- Settles O11: the one way not to complete is a dispatch that finds a reserved code. -/
theorem onlyAReservedStateCodeFaults : Obligations.OnlyAReservedStateCodeFaults := by
  refine ⟨fun s hlegal => (step_safe_or_faults s).resolve_right fun ⟨hreserved, _⟩ => hreserved hlegal, fun s f h => ?_⟩
  obtain ⟨t, hnext⟩ | ⟨hreserved, hfault⟩ := step_safe_or_faults s
  · cases hnext.symm.trans h
  · cases hfault.symm.trans h
    exact ⟨rfl, hreserved⟩

/-- Settles O7: in both cases the decoder finds the command incomplete. -/
theorem stepWithoutAWholeCommandChangesNothing : Obligations.StepWithoutAWholeCommandChangesNothing :=
  ⟨fun _ hshort => step_of_decodeBytes_error (decodeBytes_of_length_lt_four _ hshort),
    fun _ _ _ hport hmissing => step_of_decodeBytes_error (hport ▸ decodeBytes_of_payload_missing _ hmissing)⟩

end Sys2Proof
end

section
/-! PROOFS (70_reset_and_hazards.md R331, R340). The engine after reset, and the margin of 300 µs that the windows of the timing codec
leave around each nominal time. -/

namespace Sys2Proof.Machine

open Sys2Proof

/-- Every record reads as unused after reset, those beyond the list too (10_state.md R24). -/
theorem allocAt_reset (c : Config) (i : Nat) : allocAt (Engine.reset c) i = AllocRecord.unused := by
  rw [allocAt, List.getD_eq_getElem?_getD]
  exact List.getElem?_getD_replicate_default_eq ..

/-- The class of a sent bit's low phase (40_timing_codec.md R124). -/
def LowPhase.ofBit (b : Bool) : LowPhase := if b then .bit1 else .bit0

/-- The window of a bit's class reaches 300 µs to either side of the bit's low time (R124, R129). -/
theorem LowPhase.window_ofBit_iff (b : Bool) (n : Nat) :
    (LowPhase.ofBit b).Window n ↔ (lowTime b).toNat ≤ n + 300 ∧ n ≤ (lowTime b).toNat + 300 := by
  rw [lowTime_toNat]
  cases b
  case false => show 1200 ≤ n ∧ n ≤ 1800 ↔ 1500 ≤ n + 300 ∧ n ≤ 1500 + 300; omega
  case true => show 300 ≤ n ∧ n ≤ 900 ↔ 600 ≤ n + 300 ∧ n ≤ 600 + 300; omega

theorem dataLow_eq_ofBit {d : Micros} {b : Bool} (hlower : (lowTime b).toNat ≤ d.toNat + 300)
    (hupper : d.toNat ≤ (lowTime b).toNat + 300) : dataLow d = LowPhase.ofBit b :=
  (dataLow_eq_iff d _).mpr ((LowPhase.window_ofBit_iff b _).mpr ⟨hlower, hupper⟩)

/-- A low phase of a bit's class decodes to that bit (R125). -/
theorem decodedBit_of_dataLow_eq_ofBit {d : Micros} {b : Bool} (h : dataLow d = LowPhase.ofBit b) : decodedBit d = b := by
  rw [decodedBit, h]
  cases b <;> rfl

end Sys2Proof.Machine

namespace Sys2Proof

open Sys2Proof.Machine

/-- Settles O23: no window ends less than 300 µs from its nominal time. -/
theorem symbolsWithinTheMarginAreClassifiedAsSent : Obligations.SymbolsWithinTheMarginAreClassifiedAsSent := by
  intro latency deviation d hmargin
  refine ⟨fun b hlower hupper => ?bit, fun hlower hupper => (isStartLow_iff d).mpr ⟨by omega, by omega⟩,
    fun hlower => (isStartPeriod_iff d).mpr (by omega), fun hlower => (isBitPeriod_iff d).mpr (by omega)⟩
  have hclass : dataLow d = LowPhase.ofBit b := dataLow_eq_ofBit (by omega) (by omega)
  exact ⟨hclass, decodedBit_of_dataLow_eq_ofBit hclass⟩

/-- Settles O12: a field is the one the reset record writes, a buffer a list of zeros. -/
theorem resetHoldsTheResetValues : Obligations.ResetHoldsTheResetValues :=
  ⟨rfl, rfl, rfl, rfl, rfl, rfl, rfl, rfl, rfl, rfl, rfl, rfl, rfl, rfl, rfl, rfl, rfl, rfl, rfl, rfl, allocAt_reset Config.default,
    rfl, rfl, rfl, rfl, rfl, rfl, fun _ => List.eq_of_mem_replicate, fun _ => List.eq_of_mem_replicate⟩

end Sys2Proof
end
